-- ==== Sys2Proof/Word.lean ====
section
/-! DEFINITION. The word types of the L8 and their plainest arithmetic: bytes of the Station Port frames, signed 24-bit
samples (00_scope.md, Conventions), the 32-bit phase (R25) and texts of byte characters. -/

namespace Sys2Proof

/-- One byte of a Station Port frame or of the marker line (R189, R166). -/
abbrev Byte := BitVec 8

/-- A signed 24-bit sample as it stands in a converter or tap slot (R186). -/
abbrev Sample := BitVec 24

/-- The 32-bit phase of a Tone Synthesiser, a full cycle being 2^32 (R25). -/
abbrev Phase := BitVec 32

/-- A run of characters, one byte code each (R158: printable characters are codes 32 to 126). -/
abbrev Text := List Byte

/-- A nest, N0 to N3. -/
abbrev NestId := Fin 4

/-- The four nests in ascending order, the order in which the aborts of one mode event are taken (R17). -/
def nestIds : List NestId := [0, 1, 2, 3]

/-- The sample that carries a signed value. -/
def Sample.ofInt (i : Int) : Sample := BitVec.ofInt 24 i

end Sys2Proof
end

