-- ==== Sys2Proof/Syntax.lean ====
section
/-! DEFINITION. The commands of the L8: one constructor of `Instr` for each row of spec/opcode_table.json, with the operands
the spec gives the row, and the table records that WRITE_TABLE carries (chapters 2, 6, 7, 9, 10, 11). Fields are wide enough to hold
the values that validation refuses, because a write stores a record as given (R26, R46, R102, R112, R130). -/

namespace Sys2Proof

/-! ## Discrete inputs -/

/-- The nine debounced inputs (R1). -/
inductive Input where
  | present (n : NestId)
  | clamp (n : NestId)
  | engEnable
  | alertClr
  | markerReady
  deriving DecidableEq, Repr

/-- The levels of the nine debounced inputs at one moment: what the release of RESET_N finds on them (R2, R24). -/
structure Levels where
  present : Vector Bool 4
  clamp : Vector Bool 4
  engEnable : Bool
  alertClr : Bool
  markerReady : Bool
  deriving DecidableEq, Repr

/-! ## Figures, findings and notices -/

/-- The five figure kinds a judge set, a mask and a FIGURE label field name (R26, R112, R158). -/
inductive Figure where
  | response | thd | rub | crest | impedance
  deriving DecidableEq, Repr, Inhabited

/-- The six figure kinds of a finding (R4): the five figures and WINDOW. -/
inductive FindingKind where
  | response | thd | rub | crest | impedance | window
  deriving DecidableEq, Repr, Inhabited

/-- The outcomes of a finding (R4, R116). -/
inductive FindingOutcome where
  | pass | high | low | noResponse | invalid
  deriving DecidableEq, Repr, Inhabited

/-- The notice kinds (R196). -/
inductive NoticeKind where
  | faultRaised | modeChanged | nestAlert | yieldLow | yieldRecovered | guardExceeded | labelDiscarded | reportsDropped
  deriving DecidableEq, Repr, Inhabited

/-- A notice kind as a command names it: a known one, or a code that names none (R198, R199). -/
inductive NoticeArg where
  | known (k : NoticeKind)
  | unknown (code : Nat)
  deriving DecidableEq, Repr, Inhabited

/-! ## Table records -/

/-- A judge set: for each figure, the mask index where the figure is judged (R26). -/
structure JudgeSet where
  response : Option Nat
  thd : Option Nat
  rub : Option Nat
  crest : Option Nat
  impedance : Option Nat
  deriving DecidableEq, Repr, Inhabited

/-- A SEGMENT record (R26). -/
structure Segment where
  startCode : Int
  stepCount : Nat
  stepSize : Int
  level : Int
  rampFrames : Nat
  settleFrames : Nat
  measureFrames : Nat
  trim : Bool
  quiet : Bool
  judge : JudgeSet
  hlo : Nat
  hhi : Nat
  deriving DecidableEq, Repr, Inhabited

/-- A plan entry (R28): a SEGMENT entry with its segment index, or a REPEAT entry with back count K and repeat count N. -/
inductive PlanEntry where
  | segment (index : Nat)
  | again (back count : Nat)
  deriving DecidableEq, Repr, Inhabited

/-- A plan (R28). -/
structure Plan where
  entries : List PlanEntry
  budget : Nat
  name : Text
  deriving DecidableEq, Repr, Inhabited

/-- A breakpoint of a mask (R112). -/
structure Breakpoint where
  code : Int
  upper : Option Int
  lower : Option Int
  deriving DecidableEq, Repr, Inhabited

/-- A limit mask (R112). -/
structure Mask where
  kind : Figure
  points : List Breakpoint
  deriving DecidableEq, Repr, Inhabited

/-- The comparison of a FINDINGS condition (R131). -/
inductive Comparison where
  | atLeast | exactly | fewerThan
  deriving DecidableEq, Repr, Inhabited

/-- A condition of a grade rule (R131); `unknown` is the condition of unknown kind that validation finds as detail 404. -/
inductive Condition where
  | findings (kinds : List FindingKind) (outcomes : List FindingOutcome) (cmp : Comparison) (n : Nat)
  | retest (is : Bool)
  | nest (nests : List NestId)
  | unknown (code : Nat)
  deriving DecidableEq, Repr, Inhabited

/-- A GRADE rule (R130); the label template is NONE when absent. -/
structure GradeRule where
  conditions : List Condition
  code : Nat
  name : Text
  bin : Nat
  template : Option Nat
  deriving DecidableEq, Repr, Inhabited

/-- A field of a label template (R158). -/
inductive LabelField where
  | literal (t : Text)
  | serial
  | lot
  | gradeName
  | bin
  | nest
  | figure (f : Figure)
  | lotCount
  deriving DecidableEq, Repr, Inhabited

/-- A label field as a write names it: a known one, or a field of unknown kind, which the write refuses (R157). -/
inductive LabelFieldArg where
  | known (f : LabelField)
  | unknown (code : Nat)
  deriving DecidableEq, Repr, Inhabited

/-- A CALIBRATION entry: mic offset Om and impedance scale Kz (R102). -/
structure Calibration where
  micOffset : Int
  scale : Nat
  deriving DecidableEq, Repr, Inhabited

/-- The role setting as stored (R46); validation refuses an unknown one as detail 612. -/
inductive RoleSetting where
  | solo | first | member
  | unknown (code : Nat)
  deriving DecidableEq, Repr, Inhabited

/-- A class-action setting as stored (R46, R164, R179); validation refuses an unknown one as detail 620. -/
inductive ActionSetting where
  | stop | continue_
  | unknown (code : Nat)
  deriving DecidableEq, Repr, Inhabited

/-- A step-report setting as stored (R103); validation refuses an unknown one as detail 615. -/
inductive ReportSetting where
  | off | fails | all
  | unknown (code : Nat)
  deriving DecidableEq, Repr, Inhabited

/-- The whole set of CONFIGURATION settings, which one write replaces (R195). -/
structure Configuration where
  /-- debounce time, ms (R1) -/
  debounce : Nat
  /-- autostart setting of each nest (R10) -/
  autostart : Vector Bool 4
  /-- default plan of each nest (R10) -/
  defaultPlan : Vector Nat 4
  /-- role (R46) -/
  role : RoleSetting
  /-- quiet ceiling, tenths of a dBFS (R46) -/
  quietCeiling : Int
  /-- hold limit, ms (R46) -/
  holdLimit : Nat
  /-- wait limit, ms (R46) -/
  waitLimit : Nat
  /-- class action of PERMIT_TIMEOUT (R46) -/
  actionTimeout : ActionSetting
  /-- class action of PERMIT_DUPLICATE (R46) -/
  actionDuplicate : ActionSetting
  /-- class action of MARKER_FAULT (R164) -/
  actionMarker : ActionSetting
  /-- class action of DISPOSAL_STALL (R179) -/
  actionStall : ActionSetting
  /-- guard block exponent g (R83) -/
  guardExponent : Nat
  /-- guard debounce count D (R83) -/
  guardDebounce : Nat
  /-- normal threshold, tenths of a dBFS (R83) -/
  normalThreshold : Int
  /-- quiet threshold, tenths of a dBFS (R83) -/
  quietThreshold : Int
  /-- silence floor Fs (R103) -/
  silenceFloor : Int
  /-- current floor Fc (R103) -/
  currentFloor : Int
  /-- step-report setting of each nest (R103) -/
  stepReport : Vector ReportSetting 4
  /-- yield window length W (R148) -/
  yieldWindow : Nat
  /-- yield threshold (R148) -/
  yieldThreshold : Nat
  /-- consecutive-fail limit (R148) -/
  failLimit : Nat
  /-- marker baud rate (R164) -/
  baud : Nat
  /-- reply timeout, units of 10 ms (R164) -/
  replyTimeout : Nat
  /-- stall limit, s (R179) -/
  stallLimit : Nat
  deriving DecidableEq, Repr

/-- A tap source (R200). -/
inductive TapSource where
  | none
  | mic (n : NestId)
  | cur (n : NestId)
  | grd (g : Fin 2)
  | drv (n : NestId)
  | micGated (n : NestId)
  deriving DecidableEq, Repr, Inhabited

/-- A tap source as a write names it; a source outside the list of R200 is refused. -/
inductive TapArg where
  | known (t : TapSource)
  | unknown (code : Nat)
  deriving DecidableEq, Repr, Inhabited

/-- What a WRITE_TABLE carries: the table, the index and the optional record of that table's shape (R195). -/
inductive TableWrite where
  | segment (index : Nat) (record : Option Segment)
  | plan (index : Nat) (record : Option Plan)
  | mask (index : Nat) (record : Option Mask)
  | grade (index : Nat) (record : Option GradeRule)
  | labelTemplate (index : Nat) (record : Option (List LabelFieldArg))
  | calibration (index : Nat) (record : Option Calibration)
  | configuration (index : Nat) (record : Option Configuration)
  | tap (index : Nat) (record : Option TapArg)
  | unknown (table : Nat)
  deriving DecidableEq, Repr

/-- The table a READ_TABLE names (R195). -/
inductive TableId where
  | segment | plan | mask | grade | labelTemplate | calibration | configuration | tap
  | unknown (table : Nat)
  deriving DecidableEq, Repr, Inhabited

/-! ## Frames of the two ports -/

/-- One input slot of a converter frame: its sample and its overload flag (R186). -/
structure Slot where
  sample : Sample
  overload : Bool
  deriving DecidableEq, Repr, Inhabited

/-- The ten input slots of a converter frame (R186). -/
structure InFrame where
  mic : Vector Slot 4
  cur : Vector Slot 4
  grd : Vector Slot 2
  deriving DecidableEq, Repr

/-- The six bytes of a downstream frame (R189). -/
abbrev DownFrame := Vector Byte 6

/-! ## Commands of the station controller -/

/-- A message of the station controller whose type is a command and whose payload fits it, by its named fields (R195). -/
inductive Command where
  | writeTable (w : TableWrite)
  | readTable (t : TableId) (index : Nat)
  | startRun
  | stopRun
  | holdSmart
  | holdForce
  | resume
  | newLot (lotId serialPrefix serial : Text)
  | startUnit (nest plan : Nat) (prior : Option Text)
  | abortUnit (nest : Nat)
  | clearNestAlert (nest : Nat)
  | clearFault
  | resetPart
  | setNotices (kinds : List NoticeArg)
  | clearNotices (kinds : List NoticeArg)
  | setAlerts (kinds : List NoticeArg)
  | clearAlerts (kinds : List NoticeArg)
  | ackAlerts (kinds : List NoticeArg)
  | readStatus
  | readNest (nest : Nat)
  | readLot
  | readFaults
  deriving DecidableEq, Repr

/-- The commands and events of the L8, one constructor per row of spec/opcode_table.json, in the table's order.
A row that is a command of the station controller carries the tag of its message (R189) and its fields (R195). -/
inductive Instr where
  /-- POWER_ON: release of RESET_N with these input levels (R185). -/
  | powerOn (levels : Levels)
  /-- INPUT_HOLD_START: the level of a debounced input becomes `level` (R1). -/
  | inputHoldStart (i : Input) (level : Bool)
  /-- DEBOUNCED_EDGE: the hold of the input lasts the debounce time (R1). -/
  | debouncedEdge (i : Input)
  /-- FRAME_EVENT: a converter frame, the downstream frame of the same event (absent when no complete one was received, R191),
  and whether the downstream frame is taken before the upstream one (R191). -/
  | frameEvent (f : InFrame) (down : Option DownFrame) (downFirst : Bool)
  /-- REFERENCE_FRAME_EVENT: a frame event timed from the reference clock (R188). -/
  | referenceFrameEvent (down : Option DownFrame) (downFirst : Bool)
  /-- CONVERTER_SYNC_LOST: 1 ms passes with no frame marker (R188). -/
  | converterSyncLost
  /-- PERMIT_IN_RISE (R54). -/
  | permitInRise
  /-- PERMIT_ARRIVAL (R55). -/
  | permitArrival
  /-- PERMIT_PULSE_END (R57). -/
  | permitPulseEnd
  /-- PERMIT_GAP_END (R57). -/
  | permitGapEnd
  /-- HOLD_LIMIT_EXPIRY (R58). -/
  | holdLimitExpiry
  /-- PERMIT_TIMEOUT (R59). -/
  | permitTimeout
  /-- QUIET_GRANT (R49). -/
  | quietGrant
  /-- LOUD_GATE_PASS (R51). -/
  | loudGatePass
  /-- SETTLE_END of the nest's step (R39). -/
  | settleEnd (n : NestId)
  /-- PAIR_GRANT (R67). -/
  | pairGrant
  /-- WINDOW_OPEN of the nest's trimmed step (R41). -/
  | windowOpen (n : NestId)
  /-- LAST_WINDOW_FRAME of the nest's window (R42). -/
  | lastWindowFrame (n : NestId)
  /-- WINDOW_CLOSE: a freed record given to the head of the close-wait list (R73, R76). -/
  | windowClose
  /-- WINDOWLESS_STEP_END of the nest's step (R44). -/
  | windowlessStepEnd (n : NestId)
  /-- GUARD_BLOCK_END (R85). -/
  | guardBlockEnd
  /-- FIGURE_UNIT_TAKE (R98). -/
  | figureUnitTake
  /-- FIGURE_UNIT_COMPLETION (R100). -/
  | figureUnitCompletion
  /-- RETRY_START of the nest (R127). -/
  | retryStart (n : NestId)
  /-- GRADING of the nest's unit (R133). -/
  | grading (n : NestId)
  /-- DISPOSAL of the nest's graded unit (R14). -/
  | disposal (n : NestId)
  /-- ABORTED_DISPOSAL of the nest's aborted unit (R21). -/
  | abortedDisposal (n : NestId)
  /-- DISPOSAL_STALL of the nest (R15). -/
  | disposalStall (n : NestId)
  /-- MARKER_FRAME_START (R166). -/
  | markerFrameStart
  /-- SEND_COMPLETION (R166). -/
  | sendCompletion
  /-- ACK received on MARKER_RX (R167). -/
  | ack
  /-- NAK received on MARKER_RX (R168). -/
  | nak
  /-- REPLY_TIMEOUT (R167). -/
  | replyTimeout
  /-- VALIDATION_COMPLETION (R173). -/
  | validationCompletion
  /-- HELD_REACHED (R176). -/
  | heldReached
  /-- WAITING_REPLY placed (R194). -/
  | waitingReply
  /-- REPORTS_DROPPED (R197). -/
  | reportsDropped
  | writeTable (tag : Byte) (w : TableWrite)
  | readTable (tag : Byte) (t : TableId) (index : Nat)
  | startRun (tag : Byte)
  | stopRun (tag : Byte)
  | holdSmart (tag : Byte)
  | holdForce (tag : Byte)
  | resume (tag : Byte)
  | newLot (tag : Byte) (lotId serialPrefix serial : Text)
  | startUnit (tag : Byte) (nest plan : Nat) (prior : Option Text)
  | abortUnit (tag : Byte) (nest : Nat)
  | clearNestAlert (tag : Byte) (nest : Nat)
  | clearFault (tag : Byte)
  | resetPart (tag : Byte)
  | setNotices (tag : Byte) (kinds : List NoticeArg)
  | clearNotices (tag : Byte) (kinds : List NoticeArg)
  | setAlerts (tag : Byte) (kinds : List NoticeArg)
  | clearAlerts (tag : Byte) (kinds : List NoticeArg)
  | ackAlerts (tag : Byte) (kinds : List NoticeArg)
  | readStatus (tag : Byte)
  | readNest (tag : Byte) (nest : Nat)
  | readLot (tag : Byte)
  | readFaults (tag : Byte)
  /-- UNKNOWN_COMMAND: a message whose type is not a command (R194). -/
  | unknownCommand (tag : Byte) (type : Byte)
  deriving DecidableEq, Repr

end Sys2Proof
end

