-- ==== Sys2Proof/Decode.lean ====
section
/-! DEFINITION. The reading of a table word as a command. The rows of spec/opcode_table.json give no bits (every row has an empty field
list), so no word spells a command (log entry 25). The one bit-level input of the part, the downstream frame of R189 and R191, is read
by `assembleByte` and `requestOf` of Machine/Frames.lean. -/

namespace Sys2Proof

/-- The command that a table word spells: none, because the table gives no row any bits (log entry 25). -/
def decodeTableWord (_nbits _w : Nat) : Option Instr := none

end Sys2Proof
end

