-- ==== Sys2Proof/Machine/Reports.lean ====
section
/-! DEFINITION. The plain data that the blocks of the L8 write, keep and report: findings and Unit Records (chapters 1 and 7), window
records (chapter 4), fault records (chapter 10), label records (chapter 9), events, reports, replies and messages (chapter 11). -/

namespace Sys2Proof.Machine

open Sys2Proof

/-! ## Modes, phases and classes -/

/-- The five modes (chapter 10, section 10.1). -/
inductive Mode where
  | standby | run | holding | held | stopped
  deriving DecidableEq, Repr, Inhabited

/-- The six nest states (chapter 1, section 1.1). -/
inductive NestState where
  | empty | loaded | testing | finishing | disposing | disposed
  deriving DecidableEq, Repr, Inhabited

/-- The six step phases (chapter 2, section 2.6). -/
inductive StepPhase where
  | gateWait | settle | allocWait | openWait | measure | closeWait
  deriving DecidableEq, Repr, Inhabited

/-- The three step classes (R45). -/
inductive StepClass where
  | quiet | loud | neutral
  deriving DecidableEq, Repr, Inhabited

/-- The roles that a part in a running mode can have (chapter 3, section 3.3). -/
inductive Role where
  | solo | first | member
  deriving DecidableEq, Repr, Inhabited

/-- The two class actions (R179). -/
inductive Action where
  | stop | continue_
  deriving DecidableEq, Repr, Inhabited

/-- The three step-report settings (R119). -/
inductive ReportRule where
  | off | fails | all
  deriving DecidableEq, Repr, Inhabited

/-- The channel of a correlator pair (R63). -/
inductive Channel where
  | mic | cur
  deriving DecidableEq, Repr, Inhabited

/-- The taint of a window record (R74). -/
inductive Taint where
  | none | ambient | overload
  deriving DecidableEq, Repr, Inhabited

/-- The two guard streams (chapter 5, section 5.3). -/
inductive StreamId where
  | normal | quiet
  deriving DecidableEq, Repr, Inhabited

/-- The causes of an INVALID finding (R123). -/
inductive Cause where
  | ambient | overload | quietUnavailable
  deriving DecidableEq, Repr, Inhabited

/-- The abort reasons (R17). -/
inductive AbortReason where
  | removed | commanded | holdForced | stopped
  deriving DecidableEq, Repr, Inhabited

/-! ## The Unit Record (R4) -/

/-- A finding entry (chapter 7, section 7.1). -/
structure Finding where
  segment : Nat
  step : Nat
  code : Nat
  kind : FindingKind
  outcome : FindingOutcome
  value : Option Int
  limit : Option Int
  cause : Option Cause
  deriving DecidableEq, Repr, Inhabited

/-- One count for each of the 30 (figure kind, outcome) pairs (R4), at index `tallyIndex`. -/
abbrev Tally := Vector Nat 30

/-- An overflow row: the counts of the findings of one (segment, step) that were not stored (R121). -/
structure OverflowRow where
  segment : Nat
  step : Nat
  counts : Tally
  deriving DecidableEq, Repr

/-- A Retry List key (R124). -/
structure RetryKey where
  segment : Nat
  step : Nat
  deriving DecidableEq, Repr, Inhabited

/-- A repeat context: the entry position of a REPEAT and its remaining count (R32). -/
structure RepeatContext where
  entry : Nat
  remaining : Nat
  deriving DecidableEq, Repr, Inhabited

/-- The plan position (R4). -/
inductive PlanPosition where
  | at_ (entry step : Nat)
  | end_
  | retry (segment step : Nat)
  deriving DecidableEq, Repr, Inhabited

/-- A disposition: the grade, and the copy of the named template's fields (R133, R157). -/
structure Disposition where
  code : Nat
  name : Text
  bin : Nat
  template : Option Nat
  fields : List LabelField
  deriving DecidableEq, Repr, Inhabited

/-- The Unit Record of a nest (R4). -/
structure UnitRecord where
  serial : Nat
  prior : Option Nat
  plan : Nat
  findings : List Finding
  overflow : Nat
  rows : List OverflowRow
  tally : Tally
  retriesUsed : Nat
  pending : Nat
  retryList : List RetryKey
  repeats : List RepeatContext
  position : PlanPosition
  disposition : Option Disposition
  abort : Option AbortReason
  deriving DecidableEq, Repr

/-! ## Windows (R63, R74, R92) -/

/-- A correlator pair held by a nest, or an entry of a record's sum list: channel, harmonic and the sums I and Q (R63, R69, R74). -/
structure Pair where
  channel : Channel
  h : Nat
  i : Int
  q : Int
  deriving DecidableEq, Repr, Inhabited

/-- A Window Store record (R74). -/
structure WindowRecord where
  nest : NestId
  serial : Nat
  retryRun : Bool
  segment : Nat
  step : Nat
  code : Nat
  level : Int
  judge : JudgeSet
  cls : StepClass
  mEff : Nat
  lastFrame : Nat
  peak : Nat
  sums : List Pair
  overload : Bool
  taint : Taint
  deriving DecidableEq, Repr, Inhabited

/-! ## Faults (R179) -/

/-- The five fault kinds (R179). -/
inductive FaultKind where
  | converterSyncLost | permitTimeout | permitDuplicate | markerFault | disposalStall
  deriving DecidableEq, Repr, Inhabited

/-- The kind of a marker failure (R168). -/
inductive MarkerFailure where
  | nak | timeout
  deriving DecidableEq, Repr, Inhabited

/-- What a stalled disposal found unavailable (R179). -/
inductive StallDetail where
  | resultQueue | labelQueue | both
  deriving DecidableEq, Repr, Inhabited

/-- The detail of a fault (R179). -/
inductive FaultDetail where
  | none
  | role (r : Role)
  | marker (f : MarkerFailure)
  | stall (d : StallDetail)
  deriving DecidableEq, Repr, Inhabited

/-- A fault record (R179). -/
structure FaultRecord where
  seq : Nat
  kind : FaultKind
  detail : FaultDetail
  nest : Option NestId
  serial : Option Nat
  segment : Option Nat
  step : Option Nat
  action : Action
  mode : Mode
  deriving DecidableEq, Repr, Inhabited

/-! ## Labels (R160) -/

/-- A label record (R160). -/
structure Label where
  serial : Nat
  nest : NestId
  text : Text
  truncated : Bool
  deriving DecidableEq, Repr, Inhabited

/-! ## The marker line (R166) -/

/-- One bit of a byte on MARKER_TX or MARKER_RX (R166). -/
inductive LineBit where
  | start
  | data (bit : Bool)
  | stop
  deriving DecidableEq, Repr, Inhabited

/-! ## Lot counts (R140) -/

/-- A count of the Lot Record with its saturated flag (R140). -/
structure Count where
  value : Nat
  saturated : Bool
  deriving DecidableEq, Repr, Inhabited

/-- The 31 counts of the Lot Record (R139). -/
structure LotCounts where
  started : Count
  graded : Count
  aborted : Count
  perGrade : Vector Count 16
  nestGraded : Vector Count 4
  nestPassed : Vector Count 4
  firstGraded : Count
  firstPassed : Count
  retestGraded : Count
  retestPassed : Count
  deriving DecidableEq, Repr

/-- The settings in force (R148). -/
structure LotSettings where
  window : Nat
  threshold : Nat
  failLimit : Nat
  deriving DecidableEq, Repr, Inhabited

/-! ## Sets of notice kinds (R198, R199) -/

/-- A set of notice kinds: at index `NoticeKind.index`, whether the kind is in the set. -/
abbrev NoticeSet := Vector Bool 8

/-! ## Events (R196) -/

/-- The cause of a change of mode (R171). -/
inductive ModeCause where
  | startRun | holdSmart | heldReached | holdForce | resume | stopRun
  | fault (k : FaultKind)
  | clearFault
  deriving DecidableEq, Repr, Inhabited

/-- The cause of a YIELD_RECOVERED (R156); APPEND carries the serial and the nest of the unit. -/
inductive RecoveryCause where
  | append (serial : Nat) (nest : NestId)
  | newLot
  | runStart
  deriving DecidableEq, Repr, Inhabited

/-- An event handed to the Station Port, with its fields (R171, R179, R89, R156, R170, R197). -/
inductive Event where
  | faultRaised (r : FaultRecord)
  | modeChanged (former new : Mode) (cause : ModeCause)
  | nestAlert (nest : NestId) (fails limit serial code bin : Nat)
  | yieldLow (lotId : Text) (window threshold passCount serial : Nat) (nest : NestId)
  | yieldRecovered (lotId : Text) (window threshold passCount : Nat) (cause : RecoveryCause)
  | guardExceeded (stream : StreamId) (firstBlock firstFrame : Nat) (level : Int) (overloaded : Bool)
  | labelDiscarded (serial : Nat) (nest : NestId) (truncated : Bool) (failure : MarkerFailure) (left : Nat)
  | reportsDropped (count : Nat)
  deriving DecidableEq, Repr

/-! ## Reports -/

/-- A UNIT_REPORT (R135). -/
structure UnitReport where
  nest : NestId
  serial : Nat
  prior : Option Nat
  plan : Nat
  graded : Bool
  disposition : Option (Nat × Text × Nat × Option Nat)
  abort : Option AbortReason
  position : Option PlanPosition
  retriesUsed : Nat
  gone : Bool
  tally : Tally
  overflow : Nat
  findings : List Finding
  deriving DecidableEq, Repr

/-- A STEP_REPORT (R120); `retryKey` is whether the key was appended, absent for an untainted record. -/
structure StepReport where
  nest : NestId
  serial : Nat
  retryRun : Bool
  segment : Nat
  step : Nat
  code : Nat
  cls : StepClass
  mEff : Nat
  lastFrame : Nat
  taint : Taint
  micLevel : Option Int
  curLevel : Option Int
  retryKey : Option Bool
  findings : List Finding
  deriving DecidableEq, Repr

/-! ## Replies -/

/-- The reply codes (chapter 11, section 11.4). -/
inductive ReplyCode where
  | ok | notPermitted | wrongMode | busy | badArgument | nestNotReady | nestAlert | noLot | serialExhausted
  | tableInvalid | conditionPresent | unknownCommand
  deriving DecidableEq, Repr, Inhabited

/-- A table entry as READ_TABLE returns it (R195); an undefined entry is absent. -/
inductive TableEntry where
  | segment (r : Option Segment)
  | plan (r : Plan)
  | mask (r : Option Mask)
  | grade (r : Option GradeRule)
  | labelTemplate (r : Option (List LabelField))
  | calibration (r : Option Calibration)
  | configuration (r : Configuration)
  | tap (r : TapSource)
  deriving DecidableEq, Repr

/-- The unit group of the READ_NEST reply (R23). -/
structure UnitSummary where
  serial : Nat
  prior : Option Nat
  plan : Nat
  position : PlanPosition
  retriesUsed : Nat
  pending : Nat
  retryCount : Nat
  stored : Nat
  overflow : Nat
  tally : Tally
  disposition : Option (Nat × Text × Nat × Option Nat)
  abort : Option AbortReason
  deriving DecidableEq, Repr

/-- The READ_NEST reply (R23). -/
structure NestReply where
  state : NestState
  phase : Option StepPhase
  present : Bool
  clamped : Bool
  pass : Bool
  reject : Bool
  gone : Bool
  alert : Bool
  fails : Nat
  unit : Option UnitSummary
  deriving DecidableEq, Repr

/-- The READ_LOT reply (R155). -/
structure LotReply where
  isOpen : Bool
  lotId : Text
  serialPrefix : Text
  nextSerial : Nat
  exhausted : Bool
  counts : LotCounts
  settings : LotSettings
  held : Nat
  passCount : Nat
  yieldLow : Bool
  outcomes : List Bool
  fails : Vector Nat 4
  alerts : Vector Bool 4
  deriving DecidableEq, Repr

/-- The four following flags (R182). -/
structure FollowingFlags where
  syncOk : Bool
  markerReady : Bool
  permitHeld : Bool
  yieldLow : Bool
  deriving DecidableEq, Repr, Inhabited

/-- The READ_FAULTS reply (R182). -/
structure FaultsReply where
  latched : Vector Bool 5
  following : FollowingFlags
  first : Option FaultRecord
  count : Nat
  history : List FaultRecord
  deriving DecidableEq, Repr

/-- A guard stream (chapter 5, section 5.1). -/
structure Stream where
  run : Nat
  declared : Bool
  first : Option Nat
  deriving DecidableEq, Repr, Inhabited

/-- The last ended guard block (chapter 5, section 5.1). -/
structure GuardBlock where
  number : Nat
  level : Int
  overloaded : Bool
  deriving DecidableEq, Repr, Inhabited

/-- The send state of the Marker Line Controller (R165). -/
inductive SendState where
  | idle | sending | awaiting
  deriving DecidableEq, Repr, Inhabited

/-- The needs of a nest waiting for its disposal reservation (R161): always a Result Queue slot, and a Label Queue place or none. -/
structure WaitingNest where
  nest : NestId
  labelPlace : Bool
  deriving DecidableEq, Repr, Inhabited

/-- The READ_STATUS reply (R201, with the fields of R62, R82, R96, R170 and R182). -/
structure StatusReply where
  mode : Mode
  mark : Bool
  validating : Bool
  latched : Vector Bool 5
  following : FollowingFlags
  inSync : Bool
  engineer : Bool
  holdOff : Bool
  bufferCount : Nat
  resultCount : Nat
  nonReplyCount : Nat
  waitingReply : Bool
  unreported : Nat
  badFrames : Nat
  badMessages : Nat
  discarded : Nat
  dropped : Nat
  noticeEnable : NoticeSet
  alertEnable : NoticeSet
  alertPending : NoticeSet
  alertLevel : Bool
  role : RoleSetting
  permitHeld : Bool
  quietQueue : List NestId
  quietHolder : Option NestId
  gateOpen : Bool
  holdTimerRuns : Bool
  waitTimerRuns : Bool
  freePairs : Nat
  allocQueue : List (NestId × Nat)
  closeWait : List NestId
  freeRecords : Nat
  inGuardHold : Nat
  inJudgeQueue : Nat
  inComputation : Nat
  frameNumber : Nat
  guardExponent : Nat
  guardDebounce : Nat
  lastBlock : Option GuardBlock
  normal : Stream
  quiet : Stream
  watchEntries : Nat
  watchMarks : Nat
  labelCount : Nat
  headLabel : Option (Nat × NestId)
  sendState : SendState
  retryCount : Nat
  markerHold : Bool
  waiting : List WaitingNest
  deriving DecidableEq, Repr

/-- The data of a reply. -/
inductive ReplyData where
  | none
  | started (serial : Nat) (retest : Bool)
  | invalid (detail index : Nat)
  | entry (e : TableEntry)
  | nest (r : NestReply)
  | lot (r : LotReply)
  | faults (r : FaultsReply)
  | status (r : StatusReply)
  deriving DecidableEq, Repr

/-- A REPLY message: the command's tag, the code and the data (R194). -/
structure Reply where
  tag : Byte
  code : ReplyCode
  data : ReplyData
  deriving DecidableEq, Repr

/-- An upstream message of the Result Queue (chapter 11, section 11.3). -/
inductive Message where
  | reply (r : Reply)
  | unitReport (r : UnitReport)
  | stepReport (r : StepReport)
  | notice (e : Event)
  deriving DecidableEq, Repr

/-! ## Indices of the fixed sets -/

/-- The place of a notice kind in a `NoticeSet`. -/
def noticeIndex : NoticeKind → Fin 8
  | .faultRaised => 0 | .modeChanged => 1 | .nestAlert => 2 | .yieldLow => 3
  | .yieldRecovered => 4 | .guardExceeded => 5 | .labelDiscarded => 6 | .reportsDropped => 7

/-- The kind of an event (R196). -/
def eventKind : Event → NoticeKind
  | .faultRaised _ => .faultRaised
  | .modeChanged _ _ _ => .modeChanged
  | .nestAlert _ _ _ _ _ _ => .nestAlert
  | .yieldLow _ _ _ _ _ _ => .yieldLow
  | .yieldRecovered _ _ _ _ _ => .yieldRecovered
  | .guardExceeded _ _ _ _ _ => .guardExceeded
  | .labelDiscarded _ _ _ _ _ => .labelDiscarded
  | .reportsDropped _ => .reportsDropped

/-- The fault code (R179). -/
def faultCode : FaultKind → Nat
  | .converterSyncLost => 10
  | .permitTimeout => 20
  | .permitDuplicate => 21
  | .markerFault => 30
  | .disposalStall => 40

/-- The place of a fault kind among the five latched flags (R171). -/
def faultIndex : FaultKind → Fin 5
  | .converterSyncLost => 0
  | .permitTimeout => 1
  | .permitDuplicate => 2
  | .markerFault => 3
  | .disposalStall => 4

end Sys2Proof.Machine
end

