-- ==== Sys2Proof/Config.lean ====
section
/-! DEFINITION. What one L8 fixes: the capacities of the part (00_scope.md, the part at a glance), and the FREE VALUES, opaque
constants without a body for what the spec leaves open (log entries 4, 13, 14 and 15). Nothing can be proved of a free value. -/

namespace Sys2Proof.Config

open Sys2Proof Sys2Proof.Machine

/-! ## Capacities -/

/-- Correlator pairs of the bank (R65). -/
def pairs : Nat := 96
/-- Records of the Window Store (R77). -/
def records : Nat := 12
/-- Places of the Result Queue (R193). -/
def resultPlaces : Nat := 48
/-- A non-reply slot is available below this length of the Result Queue (R193). -/
def nonReplyPlaces : Nat := 44
/-- Places of the Label Queue (R161). -/
def labelPlaces : Nat := 32
/-- Places of the Command Buffer (R191). -/
def bufferPlaces : Nat := 4
/-- Records of the Fault History (R181). -/
def historyPlaces : Nat := 16
/-- Entries of a findings list (R121). -/
def findingPlaces : Nat := 16
/-- Keys of a Retry List (R124). -/
def retryPlaces : Nat := 16
/-- Characters of a label text (R160). -/
def labelChars : Nat := 120
/-- The bound at which a count of 32 bits saturates (R179, R197, R201). -/
def count32 : Nat := 4294967295
/-- The bound at which a Lot Record count saturates (R140). -/
def lotCount : Nat := 16777215
/-- The last serial of a range (R142). -/
def lastSerial : Nat := 99999999
/-- Frame events after its taking by which a computation completes (R99). -/
def computeFrames : Nat := 48
/-- Milliseconds by which a validation completes (R173). -/
def validationMs : Nat := 50
/-- Frames, or frame periods of the reference clock, in one millisecond (00_scope.md, Conventions; log entry 5). -/
def framesPerMs : Nat := 96

/-! ## Free values -/

/-- FREE VALUE (log entry 4). The command a message of a command type with a non-empty set of fields carries, from its payload
bytes, or none where they do not fit: the spec gives no payload layouts (00_scope.md, Layouts). -/
opaque decodeFields : Nat → List Byte → Option Command

/-- FREE VALUE (log entry 4). The payload bytes of an upstream message: the spec gives no payload layouts (00_scope.md, Layouts). -/
opaque encodePayload : Message → List Byte

/-- FREE VALUE (log entry 13). The role that a stored role of unknown code acts as, before validation refuses it. -/
opaque unknownRole : Nat → Role

/-- FREE VALUE (log entry 13). The class action that a stored one of unknown code acts as, before validation refuses it. -/
opaque unknownAction : Nat → Action

/-- FREE VALUE (log entry 13). The step-report rule that a stored one of unknown code acts as. -/
opaque unknownReport : Nat → ReportRule

/-- FREE VALUE (log entry 14). What a step reads from a segment entry that is not defined. -/
opaque undefinedSegment : Nat → Segment

/-- FREE VALUE (log entry 14). The segment index that a plan entry which is no SEGMENT entry gives a step, before validation refuses
such a plan. -/
opaque undefinedEntry : Nat → Nat

/-- FREE VALUE (log entry 14). What the Figure Unit reads from a mask that is not defined. -/
opaque undefinedMask : Nat → Mask

/-- FREE VALUE (log entry 14). What the Figure Unit reads from a CALIBRATION entry that is not defined. -/
opaque undefinedCalibration : NestId → Calibration

/-- FREE VALUE (log entry 14). The rule of a grading that no defined rule matches. -/
opaque unmatchedRule : Tally → GradeRule

/-- FREE VALUE (log entry 14). The fields of a named template that is not defined. -/
opaque undefinedTemplate : Nat → List LabelField

/-- FREE VALUE (log entry 14). The sums of a fundamental that the record of a judged figure does not hold. -/
opaque missingSum : Channel → Pair

/-- FREE VALUE (log entry 15). The detail of a DISPOSAL_STALL raised while both queues have a place. -/
opaque stallWithPlaces : NestId → StallDetail

end Sys2Proof.Config
end

