-- ==== Sys2Proof/Machine/State.lean ====
section
/-! DEFINITION. The state of the L8 as plain data, one structure for each block of the block diagram (00_scope.md), the fault and
refusal types, and the state at the release of RESET_N (R185). INVENTORY.md lists every field with its rule and its reset value. -/

namespace Sys2Proof.Machine

open Sys2Proof

/-- No meaning of this model ends in a fault: the spec names no condition that halts the part (its FAULTS are records, events and
changes of mode, R179, and are next states here). The type is closed and has no constructor, which is safe. -/
inductive Fault where
  deriving DecidableEq, Repr

/-- A command without a meaning. -/
inductive Refusal where
  /-- Raised by `exec` for a row that has no meaning yet; no row is left so. Safe: the model stops where the part goes on. -/
  | notModelled (mnemonic : String)
  deriving DecidableEq, Repr

/-- A running timer of the reference clock: its elapsed time in frame periods of 1/96 ms (log entry 5), and whether its expiry has
been taken (R58, R15). -/
structure Timer where
  elapsed : Nat
  expired : Bool
  deriving DecidableEq, Repr, Inhabited

/-! ## Discrete I/O (R1) -/

/-- A debounced input: its level, its debounced state, and the time its hold has lasted, absent while no hold is in progress (R1). -/
structure InputState where
  level : Bool
  debounced : Bool
  hold : Option Nat
  deriving DecidableEq, Repr, Inhabited

/-- The nine debounced inputs (R1). -/
structure Inputs where
  present : Vector InputState 4
  clamp : Vector InputState 4
  engEnable : InputState
  alertClr : InputState
  markerReady : InputState
  deriving DecidableEq, Repr

/-! ## Nests and Tone Synthesisers (chapters 1 and 2) -/

/-- The step settings fixed at step start (R30), the class (R45), and whether the ramp starts from 0 (R36). -/
structure Step where
  segment : Nat
  step : Nat
  code : Nat
  inc : Phase
  target : Nat
  level : Int
  ramp : Nat
  settle : Nat
  measure : Nat
  trim : Bool
  judge : JudgeSet
  hlo : Nat
  hhi : Nat
  cls : StepClass
  retry : Bool
  fromZero : Bool
  deriving DecidableEq, Repr

/-- A Tone Synthesiser: phase accumulator, current increment, amplitude of the frame last played, start amplitude of the ramp (R34,
R36), and whether the frame last counted was a wrap frame (R34; the model's own field). -/
structure Synth where
  phase : Phase
  inc : Phase
  amplitude : Nat
  rampStart : Nat
  wrapped : Bool
  deriving DecidableEq, Repr

/-- A nest controller with its synthesiser (chapters 1 and 2) and its current window (R69 to R71). `count` is the number of frames
counted in the step phase, frozen in CLOSE_WAIT. -/
structure Nest where
  state : NestState
  phase : Option StepPhase
  record : Option UnitRecord
  gone : Bool
  stall : Option Timer
  pass : Bool
  reject : Bool
  step : Option Step
  count : Nat
  pairs : List Pair
  peak : Nat
  overload : Bool
  lastFrame : Nat
  synth : Synth
  deriving DecidableEq, Repr

/-! ## Quiet Arbiter and Permit Interface (chapter 3) -/

/-- The Quiet Arbiter (chapter 3, section 3.2). The two sets hold, at each nest's place, whether the nest is in the set. -/
structure Arbiter where
  queue : List NestId
  holder : Option NestId
  loudPast : Vector Bool 4
  loudWait : Vector Bool 4
  deriving DecidableEq, Repr

/-- The out cycle (R57) with the frames it has lasted. -/
inductive OutCycle where
  | idle
  | pulse (frames : Nat)
  | gap (frames : Nat)
  deriving DecidableEq, Repr, Inhabited

/-- The Permit Interface (chapter 3, section 3.3). `due` is the model's own field: a frame event has come since the latch was set,
so that its consumption (R54) is due. -/
structure Permit where
  held : Bool
  latch : Bool
  due : Bool
  holdTimer : Option Timer
  waitTimer : Option Timer
  cycle : OutCycle
  pendingOut : Bool
  deriving DecidableEq, Repr

/-! ## Correlator Bank and Window Store (chapter 4) -/

/-- The Correlator Bank (R65): the free count and the Allocation Queue. The pairs in use stand in the nests that hold them. -/
structure Bank where
  free : Nat
  queue : List (NestId × Nat)
  deriving DecidableEq, Repr

/-- The record in computation and the frame events since its taking (R98, R99). -/
structure Computation where
  record : WindowRecord
  frames : Nat
  deriving DecidableEq, Repr

/-- The Window Store (R77) with the close-wait list (R76) and the Figure Unit's record (R97). -/
structure Store where
  free : Nat
  guardHold : List WindowRecord
  judgeQueue : List WindowRecord
  computing : Option Computation
  closeWait : List NestId
  deriving DecidableEq, Repr

/-! ## Guard Monitor (chapter 5) -/

/-- A watch entry (R92). -/
structure WatchEntry where
  nest : NestId
  stream : StreamId
  first : Nat
  latest : Option Nat
  mark : Bool
  deriving DecidableEq, Repr, Inhabited

/-- The Guard Monitor (chapter 5, section 5.1). `due` is the model's own field: the number of the block whose last frame has been
accumulated and whose block end has not been taken yet. -/
structure Guard where
  sum0 : Nat
  sum1 : Nat
  mark : Bool
  last : Option GuardBlock
  normal : Stream
  quiet : Stream
  watch : List WatchEntry
  due : Option Nat
  deriving DecidableEq, Repr

/-! ## Lot Counters (chapter 8) -/

/-- The Lot Counters (chapter 8): Lot Record, settings in force, rolling window (PASS is true), per-nest counts and alerts. -/
structure LotCounters where
  isOpen : Bool
  lotId : Text
  serialPrefix : Text
  nextSerial : Nat
  exhausted : Bool
  counts : LotCounts
  settings : LotSettings
  outcomes : List Bool
  passCount : Nat
  yieldLow : Bool
  fails : Vector Nat 4
  alerts : Vector Bool 4
  deriving DecidableEq, Repr

/-! ## Marker Line Controller (chapter 9) -/

/-- The Label Queue (R163) and the Marker Line Controller (R165). `replyLimit` is the reply timeout read at the start of the reply
wait and `baud` the rate read at the frame's start (R164); `frame` is the frame last sent on MARKER_TX (R166). -/
structure Marker where
  labels : List Label
  send : SendState
  retry : Nat
  replyTimer : Option Timer
  replyLimit : Nat
  hold : Bool
  baud : Nat
  frame : List Byte
  deriving DecidableEq, Repr

/-! ## Run Controller (chapter 10) -/

/-- Validation in flight: the tag of the START_RUN that began it (R171), and the time since its start (R173). -/
structure Validation where
  tag : Byte
  elapsed : Nat
  deriving DecidableEq, Repr

/-- The Run Controller (R171). -/
structure RunControl where
  mode : Mode
  mark : Bool
  validation : Option Validation
  latched : Vector Bool 5
  first : Option FaultRecord
  history : List FaultRecord
  count : Nat
  deriving DecidableEq, Repr

/-! ## Station Port (chapter 11) -/

/-- What a command message asks, once its type and its payload are checked (R194). -/
inductive Request where
  | command (c : Command)
  | malformed
  | unknown
  deriving DecidableEq, Repr

/-- A command of the Command Buffer: its tag and what it asks (R191, R194). -/
structure Buffered where
  tag : Byte
  request : Request
  deriving DecidableEq, Repr

/-- The Station Port (chapter 11). `reserved` is the non-reply slot that a disposal holds within its event (R193); `assembly` is the
message partly assembled and `sending` the bytes still to send of the message in sending (R191, R192); `upstream` is the upstream
frame last composed (R189). -/
structure Port where
  buffer : List Buffered
  results : List Message
  reserved : Bool
  waiting : Option Reply
  assembly : List Byte
  sending : List Byte
  holdOff : Bool
  noticeEnable : NoticeSet
  alertEnable : NoticeSet
  alertPending : NoticeSet
  unreported : Nat
  badFrames : Nat
  badMessages : Nat
  discarded : Nat
  dropped : Nat
  upstream : List Byte
  deriving DecidableEq, Repr

/-! ## Converter Port (chapter 11) -/

/-- The Converter Port: the sync state (R188), the overload flags of the current frame in the order of the slots (R187), the frame
number that the next frame event carries (R71; log entry 20), the drive slots of the frame and whether they were sent (R187, R188). -/
structure Converter where
  inSync : Bool
  overloads : Vector Bool 10
  frameNumber : Nat
  drive : Vector Int 4
  driveSent : Bool
  deriving DecidableEq, Repr

/-! ## Tables -/

/-- The tables (R195). -/
structure Tables where
  segments : Vector (Option Segment) 128
  plans : Vector Plan 8
  masks : Vector (Option Mask) 16
  grades : Vector (Option GradeRule) 16
  templates : Vector (Option (List LabelField)) 8
  calibration : Vector (Option Calibration) 4
  config : Configuration
  taps : Vector TapSource 8
  deriving DecidableEq, Repr

/-! ## The state -/

/-- The whole part, with the queue of commands that wait (the model's own field; first in, first out) and the order in which the
nests in DISPOSING entered it (R162). -/
structure State where
  inputs : Inputs
  nests : Vector Nest 4
  disposing : List NestId
  arbiter : Arbiter
  permit : Permit
  bank : Bank
  store : Store
  guard : Guard
  lot : LotCounters
  marker : Marker
  run : RunControl
  port : Port
  conv : Converter
  tables : Tables
  pending : List Instr
  deriving DecidableEq, Repr

/-! ## Power-on values -/

/-- An input set to its level, with no hold (R2). -/
def InputState.settled (level : Bool) : InputState := ⟨level, level, none⟩

/-- The inputs at the release of RESET_N (R2). -/
def Inputs.powerOn (l : Levels) : Inputs where
  present := l.present.map InputState.settled
  clamp := l.clamp.map InputState.settled
  engEnable := .settled l.engEnable
  alertClr := .settled l.alertClr
  markerReady := .settled l.markerReady

/-- A synthesiser at either reset (R37). -/
def Synth.zero : Synth := ⟨0, 0, 0, 0, false⟩

/-- A nest at either reset: LOADED when present and clamped, EMPTY otherwise (R24). The frame count, the peak, the overload flag and the
last frame have no reset value in the spec; they are 0 or false (DESIGN CHOICE, log entry 16). -/
def Nest.atReset (loaded : Bool) : Nest where
  state := if loaded then .loaded else .empty
  phase := none
  record := none
  gone := false
  stall := none
  pass := false
  reject := false
  step := none
  count := 0
  pairs := []
  peak := 0
  overload := false
  lastFrame := 0
  synth := .zero

/-- The nests at either reset, from the debounced inputs just set (R24). -/
def nestsAtReset (i : Inputs) : Vector Nest 4 :=
  let loaded (n : NestId) : Bool := i.present[n].debounced && i.clamp[n].debounced
  #v[Nest.atReset (loaded 0), Nest.atReset (loaded 1), Nest.atReset (loaded 2), Nest.atReset (loaded 3)]

/-- The Quiet Arbiter at either reset (R47). -/
def Arbiter.atReset : Arbiter := ⟨[], none, Vector.replicate 4 false, Vector.replicate 4 false⟩

/-- The Permit Interface at either reset (R53). -/
def Permit.atReset : Permit := ⟨false, false, false, none, none, .idle, false⟩

/-- The Correlator Bank at either reset (R65). -/
def Bank.atReset : Bank := ⟨Config.pairs, []⟩

/-- The Window Store and the Figure Unit at either reset (R77, R97). -/
def Store.atReset : Store := ⟨Config.records, [], [], none, []⟩

/-- A stream with no run (R84). -/
def Stream.zero : Stream := ⟨0, false, none⟩

/-- The Guard Monitor's start values (R84). -/
def Guard.start : Guard := ⟨0, 0, false, none, .zero, .zero, [], none⟩

/-- A count at 0 with its saturated flag clear (R139). -/
def Count.zero : Count := ⟨0, false⟩

/-- The 31 counts at 0 (R139, R147). -/
def LotCounts.zero : LotCounts where
  started := .zero
  graded := .zero
  aborted := .zero
  perGrade := Vector.replicate 16 .zero
  nestGraded := Vector.replicate 4 .zero
  nestPassed := Vector.replicate 4 .zero
  firstGraded := .zero
  firstPassed := .zero
  retestGraded := .zero
  retestPassed := .zero

/-- The settings in force at either reset (R148). -/
def LotSettings.atReset : LotSettings := ⟨32, 0, 0⟩

/-- The Lot Counters at the release of RESET_N (R139, R148, R151, R154). -/
def LotCounters.powerOn : LotCounters where
  isOpen := false
  lotId := []
  serialPrefix := []
  nextSerial := 0
  exhausted := false
  counts := .zero
  settings := .atReset
  outcomes := []
  passCount := 0
  yieldLow := false
  fails := Vector.replicate 4 0
  alerts := Vector.replicate 4 false

/-- The Marker Line Controller at either reset, with an empty Label Queue (R163, R165). The last three fields are the model's own
or outputs without a reset value in the spec (log entry 16). -/
def Marker.atReset : Marker := ⟨[], .idle, 0, none, 0, false, 0, []⟩

/-- The Run Controller at the release of RESET_N (R171). -/
def RunControl.powerOn : RunControl := ⟨.standby, false, none, Vector.replicate 5 false, none, [], 0⟩

/-- The Station Port at the release of RESET_N (R191, R192, R193, R197, R198, R199). No upstream frame has been composed yet. -/
def Port.powerOn : Port where
  buffer := []
  results := []
  reserved := false
  waiting := none
  assembly := []
  sending := []
  holdOff := false
  noticeEnable := Vector.replicate 8 false
  alertEnable := Vector.replicate 8 false
  alertPending := Vector.replicate 8 false
  unreported := 0
  badFrames := 0
  badMessages := 0
  discarded := 0
  dropped := 0
  upstream := []

/-- The Converter Port at the release of RESET_N: LOST without a declaration (R188), frame number 0 (R71), drive slots 0 (R37). -/
def Converter.powerOn : Converter := ⟨false, Vector.replicate 10 false, 0, Vector.replicate 4 0, false⟩

/-- The CONFIGURATION defaults, as stated with each setting (R1, R10, R46, R83, R103, R148, R164, R179). -/
def Configuration.default : Configuration where
  debounce := 10
  autostart := Vector.replicate 4 false
  defaultPlan := Vector.replicate 4 0
  role := .solo
  quietCeiling := -200
  holdLimit := 100
  waitLimit := 2000
  actionTimeout := .stop
  actionDuplicate := .stop
  actionMarker := .stop
  actionStall := .stop
  guardExponent := 0
  guardDebounce := 2
  normalThreshold := -250
  quietThreshold := -400
  silenceFloor := -900
  currentFloor := -900
  stepReport := Vector.replicate 4 .off
  yieldWindow := 32
  yieldThreshold := 0
  failLimit := 0
  baud := 9600
  replyTimeout := 50
  stallLimit := 10

/-- The tables at the release of RESET_N (R26, R28, R102, R112, R130, R157, R185, R200). -/
def Tables.powerOn : Tables where
  segments := Vector.replicate 128 none
  plans := Vector.replicate 8 ⟨[], 0, []⟩
  masks := Vector.replicate 16 none
  grades := Vector.replicate 16 none
  templates := Vector.replicate 8 none
  calibration := Vector.replicate 4 none
  config := Configuration.default
  taps := Vector.replicate 8 .none

/-- The part at the release of RESET_N with these input levels (R185), and this queue of waiting commands. -/
def State.powerOn (l : Levels) (pending : List Instr) : State where
  inputs := .powerOn l
  nests := nestsAtReset (.powerOn l)
  disposing := []
  arbiter := .atReset
  permit := .atReset
  bank := .atReset
  store := .atReset
  guard := .start
  lot := .powerOn
  marker := .atReset
  run := .powerOn
  port := .powerOn
  conv := .powerOn
  tables := .powerOn
  pending := pending

/-- Every input low (log entry 1). -/
def Levels.low : Levels := ⟨Vector.replicate 4 false, Vector.replicate 4 false, false, false, false⟩

/-- The machine right after reset: the release of RESET_N (R185) with every input low (log entry 1) and no command waiting. -/
def State.reset : State := State.powerOn Levels.low []

end Sys2Proof.Machine
end

