-- ==== Sys2Proof/Machine/Arith.lean ====
section
/-! DEFINITION. The arithmetic of the formulas of chapters 2, 4, 5 and 6, evaluated exactly: rounding (R104), phase increments (R25),
drive amplitudes (R35), the built-in sine table (R35, R69), and rounded logarithms of ratios (R86, R106, R108, R109). A rounded
value of a formula with a root, a power or a logarithm is found by comparing whole numbers, so no precision is lost. -/

namespace Sys2Proof.Machine

open Sys2Proof

/-- The largest number from `lo` up to `lo + 2^k - 1` at which `p` holds, for a `p` that holds at `lo` and fails from some number on. -/
def bisect (p : Nat → Bool) : Nat → Nat → Nat
  | 0, lo => lo
  | k + 1, lo => if p (lo + 2 ^ k) then bisect p k (lo + 2 ^ k) else bisect p k lo

/-- The quotient rounded to the nearest integer, halves away from zero (R104). -/
def roundDiv (num : Int) (den : Nat) : Int :=
  if 0 ≤ num then (((2 * num.toNat + den) / (2 * den) : Nat) : Int)
  else -(((2 * (-num).toNat + den) / (2 * den) : Nat) : Int)

/-! ## Increments and amplitudes -/

/-- inc(c) = round(20 × 2^(c/48) × 2^32 / 96,000), the phase advance per frame at code c (R25): the largest z with
(2z − 1) × 4,800 at most 2^33 × 2^(c/48), both sides raised to the 48th power. -/
def increment (c : Nat) : Nat :=
  bisect (fun z => decide (((2 * z - 1) * 4800) ^ 48 ≤ 2 ^ (33 * 48) * 2 ^ c)) (30 + c / 48) 0

/-- A_drive = round(8,388,607 × 10^(level / 200)) (R35): the largest z with 2z − 1 at most 16,777,214 × 10^(level / 200), both sides
raised to the 200th power. -/
def driveAmplitude (level : Int) : Nat :=
  bisect (fun z => decide ((2 * z - 1) ^ 200 * 10 ^ (-level).toNat ≤ 16777214 ^ 200 * 10 ^ level.toNat))
    (25 + level.toNat / 60) 0

/-! ## The sine table (log entry 12) -/

/-- Fraction bits of the sine evaluation. -/
def sineBits : Nat := 192

/-- π / 2 with `sineBits` fraction bits. -/
def halfPi : Nat := 9860048348863269281198066682114134445731725432595044866280

/-- The nested sine series of an angle with square `x2`, from its `k`-th factor inwards. -/
def sineSeries (x2 : Nat) : Nat → Nat → Nat
  | 0, u => u
  | k + 1, u => sineSeries x2 k (2 ^ sineBits - x2 * u / (2 * (k + 1) * (2 * (k + 1) + 1) * 2 ^ sineBits))

/-- sin of a quarter cycle's part r / 2^30, with `sineBits` fraction bits. -/
def quarterSine (r : Nat) : Nat :=
  let x := halfPi * r / 2 ^ 30
  x * sineSeries (x * x / 2 ^ sineBits) 32 (2 ^ sineBits) / 2 ^ sineBits

/-- round(a × sin(2π × θ / 2^32)) (R35, R69). -/
def sineOf (a : Nat) (θ : Nat) : Int :=
  let t := θ % 2 ^ 32
  let r := t % 2 ^ 30
  let magnitude (s : Nat) : Nat := (a * s + 2 ^ (sineBits - 1)) / 2 ^ sineBits
  match t / 2 ^ 30 with
  | 0 => (magnitude (quarterSine r) : Int)
  | 1 => (magnitude (quarterSine (2 ^ 30 - r)) : Int)
  | 2 => -(magnitude (quarterSine r) : Int)
  | _ => -(magnitude (quarterSine (2 ^ 30 - r)) : Int)

/-- round(a × cos(2π × θ / 2^32)) (R69): a quarter cycle ahead of the sine. -/
def cosineOf (a : Nat) (θ : Nat) : Int := sineOf a (θ + 2 ^ 30)

/-! ## Rounded logarithms -/

/-- Whether 100 × log10(num / den) is at least k − 1/2, as whole numbers: num^200 against den^200 × 10^(2k − 1). -/
def logAtLeast (num den : Nat) (k : Int) : Bool :=
  decide (den ^ 200 * 10 ^ (2 * k - 1).toNat ≤ num ^ 200 * 10 ^ (1 - 2 * k).toNat)

/-- round(100 × log10(num / den)), −1500 when num is 0 or the result is below −1500, and +600 when it is above +600 (R86, R106, R108,
R109). No rounding tie occurs, because 10^(odd / 200) is irrational. -/
def roundLog (num den : Nat) : Int :=
  if num = 0 then -1500
  else (bisect (fun j => decide (j ≤ 2100) && logAtLeast num den ((j : Int) - 1500)) 12 0 : Nat) - 1500

/-- Full scale (00_scope.md, Conventions). -/
def fullScale : Nat := 8388608

/-- I² + Q² of a sum-list entry. -/
def Pair.power (p : Pair) : Nat := p.i.natAbs ^ 2 + p.q.natAbs ^ 2

/-- The level in tenths of a dBFS of the amplitude A = 2 × √(I² + Q²) / (32,767 × M_eff) (R105, R106), from its square. -/
def amplitudeLevel (p : Pair) (mEff : Nat) : Int :=
  roundLog (4 * p.power) ((32767 * mEff) ^ 2 * fullScale ^ 2)

/-- round(200 × log10(peak / A_1)) (R109), from the squares. -/
def crestLevel (peak : Nat) (p : Pair) (mEff : Nat) : Int :=
  roundLog (peak ^ 2 * (32767 * mEff) ^ 2) (4 * p.power)

/-- round(Kz × A_drive / A_1(cur)), at most 65,535 (R110): the largest z with (2z − 1)² × (I² + Q²) at most (Kz × A_drive × 32,767 ×
M_eff)². -/
def impedanceValue (scale drive : Nat) (p : Pair) (mEff : Nat) : Nat :=
  bisect (fun z => decide ((2 * z - 1) ^ 2 * p.power ≤ (scale * drive * 32767 * mEff) ^ 2)) 16 0

end Sys2Proof.Machine
end

