-- ==== Sys2Proof/Machine/Ops.lean ====
section
/-! DEFINITION. The operations every family shares: one update per block of State, the readings of inputs, settings and modes, the
Result Queue and the two subscribers of events (R193, R196 to R199), the making of a fault record (R179), and the permit's pass
(R57, R58). -/

namespace Sys2Proof.Machine

open Sys2Proof

/-! ## One update per block of State -/

/-- Replaces `inputs`. -/
def State.setInputs (s : State) (x : Inputs) : State := { s with inputs := x }
/-- Replaces `nests`. -/
def State.setNests (s : State) (x : Vector Nest 4) : State := { s with nests := x }
/-- Replaces `disposing`. -/
def State.setDisposing (s : State) (x : List NestId) : State := { s with disposing := x }
/-- Replaces `arbiter`. -/
def State.setArbiter (s : State) (x : Arbiter) : State := { s with arbiter := x }
/-- Replaces `permit`. -/
def State.setPermit (s : State) (x : Permit) : State := { s with permit := x }
/-- Replaces `bank`. -/
def State.setBank (s : State) (x : Bank) : State := { s with bank := x }
/-- Replaces `store`. -/
def State.setStore (s : State) (x : Store) : State := { s with store := x }
/-- Replaces `guard`. -/
def State.setGuard (s : State) (x : Guard) : State := { s with guard := x }
/-- Replaces `lot`. -/
def State.setLot (s : State) (x : LotCounters) : State := { s with lot := x }
/-- Replaces `marker`. -/
def State.setMarker (s : State) (x : Marker) : State := { s with marker := x }
/-- Replaces `run`. -/
def State.setRun (s : State) (x : RunControl) : State := { s with run := x }
/-- Replaces `port`. -/
def State.setPort (s : State) (x : Port) : State := { s with port := x }
/-- Replaces `conv`. -/
def State.setConv (s : State) (x : Converter) : State := { s with conv := x }
/-- Replaces `tables`. -/
def State.setTables (s : State) (x : Tables) : State := { s with tables := x }
/-- Replaces `pending`. -/
def State.setPending (s : State) (x : List Instr) : State := { s with pending := x }

/-- The nest controller of nest `n`. -/
def State.nest (s : State) (n : NestId) : Nest := s.nests[n]

/-- Replaces the nest controller of nest `n`. -/
def State.setNest (s : State) (n : NestId) (x : Nest) : State := s.setNests (s.nests.set n x)

/-- Changes the nest controller of nest `n`. -/
def State.modNest (s : State) (n : NestId) (f : Nest → Nest) : State := s.setNest n (f (s.nest n))

/-- Changes the Unit Record of a nest, if it holds one. -/
def State.modRecord (s : State) (n : NestId) (f : UnitRecord → UnitRecord) : State :=
  s.modNest n fun x => { x with record := x.record.map f }

/-! ## Inputs -/

/-- The nine inputs in the order in which simultaneous edges are taken (log entry 19). -/
def allInputs : List Input :=
  [.present 0, .present 1, .present 2, .present 3, .clamp 0, .clamp 1, .clamp 2, .clamp 3, .engEnable, .alertClr, .markerReady]

/-- The state of an input (R1). -/
def Inputs.get (x : Inputs) : Input → InputState
  | .present n => x.present[n]
  | .clamp n => x.clamp[n]
  | .engEnable => x.engEnable
  | .alertClr => x.alertClr
  | .markerReady => x.markerReady

/-- Replaces the state of an input. -/
def Inputs.set (x : Inputs) (i : Input) (v : InputState) : Inputs :=
  match i with
  | .present n => { x with present := x.present.set n v }
  | .clamp n => { x with clamp := x.clamp.set n v }
  | .engEnable => { x with engEnable := v }
  | .alertClr => { x with alertClr := v }
  | .markerReady => { x with markerReady := v }

/-- Debounced PRESENTn (R3). -/
def isPresent (s : State) (n : NestId) : Bool := s.inputs.present[n].debounced

/-- Debounced CLAMPn (R3). -/
def isClamped (s : State) (n : NestId) : Bool := s.inputs.clamp[n].debounced

/-- A nest is present and clamped while both debounced inputs are high (R3). -/
def presentAndClamped (s : State) (n : NestId) : Bool := isPresent s n && isClamped s n

/-- The access level is ENGINEER while debounced ENG_ENABLE is high (R194). -/
def isEngineer (s : State) : Bool := s.inputs.engEnable.debounced

/-! ## Settings and modes -/

/-- A time in milliseconds, in frame periods of the reference clock (log entry 5). -/
def ms (t : Nat) : Nat := t * Config.framesPerMs

/-- The role the part acts in (R53); a stored role of unknown code acts as a free value (log entry 13). -/
def role (s : State) : Role :=
  match s.tables.config.role with
  | .solo => .solo
  | .first => .first
  | .member => .member
  | .unknown c => Config.unknownRole c

/-- The class action a setting stands for; one of unknown code is a free value (log entry 13). -/
def actionOf : ActionSetting → Action
  | .stop => .stop
  | .continue_ => .continue_
  | .unknown c => Config.unknownAction c

/-- The step-report rule a setting stands for; one of unknown code is a free value (log entry 13). -/
def reportOf : ReportSetting → ReportRule
  | .off => .off
  | .fails => .fails
  | .all => .all
  | .unknown c => Config.unknownReport c

/-- The running modes RUN, HOLDING and HELD (R178). -/
def Mode.running : Mode → Bool
  | .run | .holding | .held => true
  | .standby | .stopped => false

/-- A nest state in which a unit is in flight (R143, R176). -/
def NestState.inFlight : NestState → Bool
  | .testing | .finishing | .disposing => true
  | .empty | .loaded | .disposed => false

/-- A timer started from 0. -/
def Timer.start : Timer := ⟨0, false⟩

/-- A running timer whose expiry has not been taken and which has reached its limit (log entry 24). -/
def timerDue (limit : Nat) : Option Timer → Bool
  | some t => !t.expired && decide (limit ≤ t.elapsed)
  | none => false

/-- A running timer, `k` frame periods later. -/
def Timer.advance (k : Nat) (t : Timer) : Timer := { t with elapsed := t.elapsed + k }

/-- An increment that saturates at 4,294,967,295 (R179, R197, R201). -/
def satInc (n : Nat) : Nat := if n < Config.count32 then n + 1 else n

/-! ## The Result Queue (R193) -/

/-- A non-reply slot is available: fewer than 44 messages, the slot a disposal has reserved counted in (R193). -/
def nonReplyAvailable (p : Port) : Bool :=
  decide (p.results.length + (if p.reserved then 1 else 0) < Config.nonReplyPlaces)

/-- A reply slot is available: fewer than 48 messages (R193). -/
def replyAvailable (p : Port) : Bool := decide (p.results.length < Config.resultPlaces)

/-- Places a message at the tail of the Result Queue. -/
def Port.place (p : Port) (m : Message) : Port := { p with results := p.results ++ [m] }

/-- Counts a drop (R197). -/
def Port.countDrop (p : Port) : Port := { p with unreported := satInc p.unreported, dropped := satInc p.dropped }

/-- Offers a NOTICE: placed, or dropped and counted (R193, R198). -/
def Port.offerNotice (p : Port) (e : Event) : Port :=
  if nonReplyAvailable p then p.place (.notice e) else p.countDrop

/-- Whether a message is a STEP_REPORT. -/
def Message.isStepReport : Message → Bool
  | .stepReport _ => true
  | _ => false

/-- Whether a message is a REPLY. -/
def Message.isReply : Message → Bool
  | .reply _ => true
  | _ => false

/-- Removes the first message that `p` selects. -/
def removeFirst (p : Message → Bool) : List Message → List Message
  | [] => []
  | m :: rest => if p m then rest else m :: removeFirst p rest

/-- Offers a STEP_REPORT: placed, or in the place of the oldest one, or dropped; one lost report is counted (R193). -/
def Port.offerStepReport (p : Port) (r : StepReport) : Port :=
  if nonReplyAvailable p then p.place (.stepReport r)
  else if p.results.any Message.isStepReport then
    ({ p with results := removeFirst Message.isStepReport p.results }.place (.stepReport r)).countDrop
  else p.countDrop

/-- Places a REPLY, or makes it the waiting reply where no reply slot is available (R193, R194). -/
def Port.answer (p : Port) (r : Reply) : Port :=
  if replyAvailable p then p.place (.reply r) else { p with waiting := some r }

/-! ## Events and their two subscribers (R196, R198, R199) -/

/-- Hands an event to the Station Port: its kind joins the alert pending set, and a NOTICE is offered when the kind is enabled. -/
def Port.handOver (p : Port) (e : Event) : Port :=
  let p' := { p with alertPending := p.alertPending.set (noticeIndex (eventKind e)) true }
  if p.noticeEnable[noticeIndex (eventKind e)] then p'.offerNotice e else p'

/-- Hands an event to the Station Port of the part. -/
def handOver (e : Event) (s : State) : State := s.setPort (s.port.handOver e)

/-- The ALERT output: high while some kind is in both the pending set and the alert enable set (R199). -/
def alertHigh (p : Port) : Bool :=
  [(0 : Fin 8), 1, 2, 3, 4, 5, 6, 7].any fun k => p.alertPending[k] && p.alertEnable[k]

/-- Changes the mode, with its MODE_CHANGED event (R171). -/
def changeMode (new : Mode) (cause : ModeCause) (s : State) : State :=
  handOver (.modeChanged s.run.mode new cause) (s.setRun { s.run with mode := new })

/-! ## Fault records (R179) -/

/-- Appends a record to the Fault History, which overwrites the oldest of 16 (R181). -/
def pushHistory (h : List FaultRecord) (r : FaultRecord) : List FaultRecord :=
  (if h.length < Config.historyPlaces then h else h.tail) ++ [r]

/-- Items 1 to 5 of a raise (R179): count, latched flag, history, first-fault record and FAULT_RAISED event. The mode effect of R180
is `applyStop`. -/
def recordFault (kind : FaultKind) (detail : FaultDetail) (nest : Option NestId) (serial segment step : Option Nat)
    (action : Action) (s : State) : State :=
  let count := satInc s.run.count
  let r : FaultRecord := ⟨count, kind, detail, nest, serial, segment, step, action, s.run.mode⟩
  handOver (.faultRaised r) (s.setRun { s.run with
    count := count
    latched := s.run.latched.set (faultIndex kind) true
    history := pushHistory s.run.history r
    first := if action = .stop && s.run.first.isNone then some r else s.run.first })

/-! ## The permit (R57, R58) and the gates (R49, R51) -/

/-- A pass on PERMIT_OUT: a pulse starts when the out cycle is idle, and is pending otherwise (R57). -/
def Permit.sendPulse (p : Permit) : Permit :=
  match p.cycle with
  | .idle => { p with cycle := .pulse 0 }
  | _ => { p with pendingOut := true }

/-- The part passes the permit: flag clear, hold timer stopped, pulse sent (R58). -/
def Permit.pass (p : Permit) : Permit := { p with held := false, holdTimer := none }.sendPulse

/-- The permit becomes held: flag set, hold timer from 0, wait timer stopped (R55, R59, R61). -/
def Permit.take (p : Permit) : Permit := { p with held := true, holdTimer := some .start, waitTimer := none }

/-- The permit is available while the role is SOLO or the permit-held flag is set (R47). -/
def permitAvailable (s : State) : Bool := decide (role s = .solo) || s.permit.held

/-- The loud gate is closed while there is a quiet holder, and while the queue is not empty and the permit is available (R51). -/
def gateOpen (s : State) : Bool :=
  !(s.arbiter.holder.isSome || (!s.arbiter.queue.isEmpty && permitAvailable s))

end Sys2Proof.Machine
end

