-- ==== Sys2Proof/Machine/Findings.lean ====
section
/-! DEFINITION. The judgement of a unit in its Unit Record: the tally, the entry of a finding (R122), the replacement of a step's
findings (R126), the Retry List (R125), and the conditions of the GRADE table (R131). -/

namespace Sys2Proof.Machine

open Sys2Proof

/-! ## The tally (R4) -/

/-- The place of a figure kind. -/
def kindIndex : FindingKind → Fin 6
  | .response => 0 | .thd => 1 | .rub => 2 | .crest => 3 | .impedance => 4 | .window => 5

/-- The place of an outcome. -/
def outcomeIndex : FindingOutcome → Fin 5
  | .pass => 0 | .high => 1 | .low => 2 | .noResponse => 3 | .invalid => 4

/-- The place of a (figure kind, outcome) pair among the 30 (R4). -/
def tallyIndex (k : FindingKind) (o : FindingOutcome) : Fin 30 :=
  ⟨(kindIndex k).val * 5 + (outcomeIndex o).val, by have := (kindIndex k).isLt; have := (outcomeIndex o).isLt; omega⟩

/-- The tally with every count at 0. -/
def Tally.zero : Tally := Vector.replicate 30 0

/-- The count of a pair. -/
def Tally.get (t : Tally) (k : FindingKind) (o : FindingOutcome) : Nat := t[tallyIndex k o]

/-- The tally with one more finding of the pair. -/
def Tally.bump (t : Tally) (k : FindingKind) (o : FindingOutcome) : Tally := t.set (tallyIndex k o) (t.get k o + 1)

/-- The tally with one finding of the pair less. -/
def Tally.drop (t : Tally) (k : FindingKind) (o : FindingOutcome) : Tally := t.set (tallyIndex k o) (t.get k o - 1)

/-- The tally less the counts of an overflow row (R126). -/
def Tally.subtract (t u : Tally) : Tally := Vector.zipWith (fun a b => a - b) t u

/-- The sum of all the counts. -/
def Tally.total (t : Tally) : Nat := t.toList.sum

/-- The six figure kinds. -/
def allKinds : List FindingKind := [.response, .thd, .rub, .crest, .impedance, .window]

/-- The five outcomes. -/
def allOutcomes : List FindingOutcome := [.pass, .high, .low, .noResponse, .invalid]

/-- The sum of the counts over every pair of a figure-kind set with an outcome set (R131). -/
def Tally.sumOver (t : Tally) (kinds : List FindingKind) (outcomes : List FindingOutcome) : Nat :=
  ((allKinds.filter fun k => kinds.contains k).map fun k =>
    ((allOutcomes.filter fun o => outcomes.contains o).map fun o => t.get k o).sum).sum

/-! ## Entering and replacing findings (R122, R126) -/

/-- Whether a stored finding has the segment, step and figure kind of `f` (R122). -/
def Finding.sameFigure (f g : Finding) : Bool :=
  decide (g.segment = f.segment) && decide (g.step = f.step) && decide (g.kind = f.kind)

/-- Whether a stored finding is one of the (segment, step) (R126). -/
def Finding.ofStep (segment step : Nat) (f : Finding) : Bool := decide (f.segment = segment) && decide (f.step = step)

/-- Whether an overflow row is that of the (segment, step) (R121). -/
def OverflowRow.ofStep (segment step : Nat) (r : OverflowRow) : Bool :=
  decide (r.segment = segment) && decide (r.step = step)

/-- Counts a finding in the overflow row of its (segment, step), which is created if it does not exist (R122). -/
def bumpRow (f : Finding) : List OverflowRow → List OverflowRow
  | [] => [⟨f.segment, f.step, Tally.zero.bump f.kind f.outcome⟩]
  | r :: rest =>
    if r.ofStep f.segment f.step then { r with counts := r.counts.bump f.kind f.outcome } :: rest else r :: bumpRow f rest

/-- Enters one finding: tallied, and stored at the tail of the list or counted as overflow (R122). -/
def UnitRecord.enter (r : UnitRecord) (f : Finding) : UnitRecord :=
  if decide (r.findings.length < Config.findingPlaces) && !(r.findings.any f.sameFigure) then
    { r with tally := r.tally.bump f.kind f.outcome, findings := r.findings ++ [f] }
  else
    { r with tally := r.tally.bump f.kind f.outcome, overflow := r.overflow + 1, rows := bumpRow f r.rows }

/-- Enters findings one after another in the order formed (R122). -/
def UnitRecord.enterAll (r : UnitRecord) (fs : List Finding) : UnitRecord := fs.foldl UnitRecord.enter r

/-- Removes every earlier finding of the (segment, step): stored entries and overflow row, from the list, the tally and the
overflow count together (R126). -/
def UnitRecord.removeStep (r : UnitRecord) (segment step : Nat) : UnitRecord :=
  let gone := r.findings.filter (Finding.ofStep segment step)
  let goneRows := r.rows.filter (OverflowRow.ofStep segment step)
  { r with
    findings := r.findings.filter fun f => !(f.ofStep segment step)
    rows := r.rows.filter fun x => !(x.ofStep segment step)
    tally := goneRows.foldl (fun t x => t.subtract x.counts) (gone.foldl (fun t f => t.drop f.kind f.outcome) r.tally)
    overflow := r.overflow - (goneRows.map fun x => x.counts.total).sum }

/-- Enters the findings of a run: for a retry run the earlier findings of its (segment, step) are removed first (R126). -/
def UnitRecord.enterRun (r : UnitRecord) (retry : Bool) (segment step : Nat) (fs : List Finding) : UnitRecord :=
  (if retry then r.removeStep segment step else r).enterAll fs

/-- The WINDOW INVALID finding of a step (R117, R60). -/
def invalidFinding (segment step code : Nat) (cause : Cause) : Finding :=
  ⟨segment, step, code, .window, .invalid, none, none, some cause⟩

/-! ## The Retry List (R124, R125) -/

/-- Whether an offered key is appended: not listed, budget left, and room (R125). -/
def UnitRecord.admitsKey (r : UnitRecord) (budget : Nat) (k : RetryKey) : Bool :=
  !(r.retryList.contains k) && decide (r.retriesUsed + r.retryList.length < budget)
    && decide (r.retryList.length < Config.retryPlaces)

/-- Offers a key to the Retry List (R125). -/
def UnitRecord.offerKey (r : UnitRecord) (budget : Nat) (k : RetryKey) : UnitRecord :=
  if r.admitsKey budget k then { r with retryList := r.retryList ++ [k] } else r

/-! ## Grade rules (R131) -/

/-- Whether a condition holds of a unit on a nest (R131). A condition of unknown kind, which validation refuses as detail 404, does
not hold. -/
def Condition.holds (r : UnitRecord) (n : NestId) : Condition → Bool
  | .findings kinds outcomes .atLeast k => decide (k ≤ r.tally.sumOver kinds outcomes)
  | .findings kinds outcomes .exactly k => decide (r.tally.sumOver kinds outcomes = k)
  | .findings kinds outcomes .fewerThan k => decide (r.tally.sumOver kinds outcomes < k)
  | .retest is => r.prior.isSome == is
  | .nest nests => nests.contains n
  | .unknown _ => false

/-- A rule holds when every one of its conditions holds (R131). -/
def GradeRule.holds (r : UnitRecord) (n : NestId) (g : GradeRule) : Bool := g.conditions.all (Condition.holds r n)

/-- The first defined rule that holds, in ascending index order (R133). -/
def firstRule (grades : List (Option GradeRule)) (r : UnitRecord) (n : NestId) : Option GradeRule :=
  (grades.filterMap id).find? (GradeRule.holds r n)

end Sys2Proof.Machine
end

