-- ==== Sys2Proof/Machine/Figures.lean ====
section
/-! DEFINITION. Correlator pair lists (R63, R64) and the figures, limits and outcomes of a Window Store record (chapter 6). -/

namespace Sys2Proof.Machine

open Sys2Proof

/-! ## Judge sets and pair lists -/

/-- The five figures in their fixed order (R118). -/
def allFigures : List Figure := [.response, .thd, .rub, .crest, .impedance]

/-- The mask index that a judge set names for a figure, absent where the figure is not judged (R26). -/
def judgedMask (j : JudgeSet) : Figure → Option Nat
  | .response => j.response
  | .thd => j.thd
  | .rub => j.rub
  | .crest => j.crest
  | .impedance => j.impedance

/-- Whether a judge set holds a figure. -/
def judges (j : JudgeSet) (f : Figure) : Bool := (judgedMask j f).isSome

/-- Whether a judge set holds a figure read from the microphone (R63, R107). -/
def judgesMic (j : JudgeSet) : Bool := judges j .response || judges j .thd || judges j .rub || judges j .crest

/-- Whether a judge set is empty (R39). -/
def judgesNothing (j : JudgeSet) : Bool := !(judgesMic j || judges j .impedance)

/-- The figure kind of a finding of a figure. -/
def figureKind : Figure → FindingKind
  | .response => .response
  | .thd => .thd
  | .rub => .rub
  | .crest => .crest
  | .impedance => .impedance

/-- The bound of a valid harmonic's increment, 2^32 × 40,000 / 96,000 rounded (R64). -/
def harmonicBound : Nat := 1789569707

/-- Whether harmonic h is valid at an increment (R64). -/
def validHarmonic (inc h : Nat) : Bool := decide (h * inc < harmonicBound)

/-- A pair of a channel and a harmonic with its sums at 0 (R67). -/
def freshPair (c : Channel) (h : Nat) : Pair := ⟨c, h, 0, 0⟩

/-- The pair list of a step, in order: mic fundamental, distortion harmonics, rub harmonics, current fundamental (R63). -/
def pairList (j : JudgeSet) (inc hlo hhi : Nat) : List Pair :=
  (if judgesMic j then [freshPair .mic 1] else [])
    ++ (if judges j .thd then ([2, 3, 4, 5].filter (validHarmonic inc)).map (freshPair .mic) else [])
    ++ (if judges j .rub then
          ((List.range (hhi + 1)).filter fun h => decide (hlo ≤ h) && validHarmonic inc h).map (freshPair .mic)
        else [])
    ++ (if judges j .impedance then [freshPair .cur 1] else [])

/-! ## Levels and figures of a record -/

/-- The fundamental entry of a channel in a record's sum list (R105). -/
def fundamental (w : WindowRecord) (c : Channel) : Option Pair :=
  w.sums.find? fun p => decide (p.channel = c) && decide (p.h = 1)

/-- The fundamental that a judged figure reads; a record of a step that judges the figure always holds it (R63), and a record that
does not is given a free value (log entry 14). -/
def fundamentalOf (w : WindowRecord) (c : Channel) : Pair := (fundamental w c).getD (Config.missingSum c)

/-- L_1 or L_1(cur) of a record, where its sum list holds the fundamental (R106, R120). -/
def fundamentalLevel (w : WindowRecord) (c : Channel) : Option Int :=
  (fundamental w c).map fun p => amplitudeLevel p w.mEff

/-- Keeps a value within −1500 to +600 (R107). -/
def clampTenths (v : Int) : Int := max (-1500) (min 600 v)

/-- The sum of I² + Q² over the MIC entries that `p` selects; a common factor with the fundamental's cancels in R108. -/
def micPower (w : WindowRecord) (p : Nat → Bool) : Nat :=
  ((w.sums.filter fun x => decide (x.channel = .mic) && p x.h).map Pair.power).sum

/-- THD (R108): the MIC entries with h from 2 to 5. -/
def thdValue (w : WindowRecord) : Int :=
  roundLog (micPower w fun h => decide (2 ≤ h ∧ h ≤ 5)) (fundamentalOf w .mic).power

/-- RUB (R108): the MIC entries with h of 6 or more. -/
def rubValue (w : WindowRecord) : Int :=
  roundLog (micPower w fun h => decide (6 ≤ h)) (fundamentalOf w .mic).power

/-- CREST (R109). -/
def crestValue (w : WindowRecord) : Int := crestLevel w.peak (fundamentalOf w .mic) w.mEff

/-- RESPONSE = L_1 − Lv + Om, clamped (R107). -/
def responseValue (w : WindowRecord) (cal : Calibration) : Int :=
  clampTenths (amplitudeLevel (fundamentalOf w .mic) w.mEff - w.level + cal.micOffset)

/-- The impedance value read as OPEN (R110). -/
def openImpedance : Int := 65535

/-- IMPEDANCE in centiohms: OPEN below the current floor, else round(Kz × A_drive / A_1(cur)) (R110). -/
def impedanceFigure (w : WindowRecord) (cal : Calibration) (floor : Int) : Int :=
  let p := fundamentalOf w .cur
  if decide (amplitudeLevel p w.mEff < floor) || decide (p.power = 0) then openImpedance
  else (impedanceValue cal.scale (driveAmplitude w.level) p w.mEff : Nat)

/-! ## Limits and outcomes -/

/-- The limit of one curve at a code, from its breakpoints in order (R114). -/
def limitAt : List (Int × Option Int) → Int → Option Int
  | [], _ => none
  | [(_, l)], _ => l
  | (c₁, l₁) :: (c₂, l₂) :: rest, c =>
    if c ≤ c₁ then l₁
    else if c < c₂ then
      match l₁, l₂ with
      | some a, some b => some (a + roundDiv ((c - c₁) * (b - a)) (c₂ - c₁).toNat)
      | _, _ => none
    else limitAt ((c₂, l₂) :: rest) c

/-- The upper limit of a mask at a code. -/
def upperAt (m : Mask) (c : Int) : Option Int := limitAt (m.points.map fun b => (b.code, b.upper)) c

/-- The lower limit of a mask at a code. -/
def lowerAt (m : Mask) (c : Int) : Option Int := limitAt (m.points.map fun b => (b.code, b.lower)) c

/-- Compares a value with its limits, the upper one first: the outcome and the limit recorded (R115). -/
def compareLimits (value : Int) (upper lower : Option Int) : FindingOutcome × Option Int :=
  match upper, lower with
  | some u, some l => if u < value then (.high, some u) else if value < l then (.low, some l) else (.pass, some u)
  | some u, none => if u < value then (.high, some u) else (.pass, some u)
  | none, some l => if value < l then (.low, some l) else (.pass, some l)
  | none, none => (.pass, none)

/-- The finding of a figure with a value (R115, R116). -/
def judgedFinding (w : WindowRecord) (f : Figure) (m : Mask) (value : Int) : Finding :=
  let r := compareLimits value (upperAt m w.code) (lowerAt m w.code)
  ⟨w.segment, w.step, w.code, figureKind f, r.1, some value, r.2, none⟩

/-- The finding of a microphone figure whose fundamental lies below the silence floor (R107). -/
def noResponseFinding (w : WindowRecord) (f : Figure) : Finding :=
  ⟨w.segment, w.step, w.code, figureKind f, .noResponse, none, none, none⟩

/-- The value of a figure of a record (R107 to R110). -/
def figureValue (w : WindowRecord) (cal : Calibration) (currentFloor : Int) : Figure → Int
  | .response => responseValue w cal
  | .thd => thdValue w
  | .rub => rubValue w
  | .crest => crestValue w
  | .impedance => impedanceFigure w cal currentFloor

/-- The mask at an index; an undefined one, which validation refuses as detail 301, is a free value (log entry 14). -/
def maskAt (t : Tables) (i : Nat) : Mask := ((t.masks[i]?).join).getD (Config.undefinedMask i)

/-- The calibration of a nest; an undefined one, which validation refuses as detail 601, is a free value (log entry 14). -/
def calibrationAt (t : Tables) (n : NestId) : Calibration := (t.calibration[n]).getD (Config.undefinedCalibration n)

/-- Whether the microphone heard no fundamental: L_1 is below the silence floor (R107). -/
def silent (t : Tables) (w : WindowRecord) : Bool :=
  decide (amplitudeLevel (fundamentalOf w .mic) w.mEff < t.config.silenceFloor)

/-- The finding of one judged figure of an untainted record (R107, R115). -/
def figureFinding (t : Tables) (w : WindowRecord) (f : Figure) (mask : Nat) : Finding :=
  if decide (f ≠ .impedance) && silent t w then noResponseFinding w f
  else judgedFinding w f (maskAt t mask) (figureValue w (calibrationAt t w.nest) t.config.currentFloor f)

/-- The findings of a record: one INVALID for a tainted one (R117), one for each judged figure of an untainted one (R118). -/
def recordFindings (t : Tables) (w : WindowRecord) : List Finding :=
  match w.taint with
  | .ambient => [invalidFinding w.segment w.step w.code .ambient]
  | .overload => [invalidFinding w.segment w.step w.code .overload]
  | .none => allFigures.filterMap fun f => (judgedMask w.judge f).map (figureFinding t w f)

end Sys2Proof.Machine
end

