-- ==== Sys2Proof/Machine/Labels.lean ====
section
/-! DEFINITION. The Label Composer (chapter 9): the rendering of each template field (R158) and the composition of a label (R160). -/

namespace Sys2Proof.Machine

open Sys2Proof

/-- The byte of a decimal digit. -/
def digitByte (d : Nat) : Byte := BitVec.ofNat 8 (48 + d % 10)

/-- The decimal digits of a number before those already written, without leading zeros. -/
def decimalInto : Nat → Nat → Text → Text
  | 0, _, acc => acc
  | fuel + 1, v, acc => if v < 10 then digitByte v :: acc else decimalInto fuel (v / 10) (digitByte v :: acc)

/-- A number in decimal without leading zeros (R158); every number a label holds has far fewer than 40 digits. -/
def decimal (v : Nat) : Text := decimalInto 40 v []

/-- A serial in eight decimal digits, leading zeros kept (R158). -/
def serialText (v : Nat) : Text :=
  [10000000, 1000000, 100000, 10000, 1000, 100, 10, 1].map fun p => digitByte (v / p)

/-- The character "-". -/
def dash : Byte := 45

/-- The character ".". -/
def point : Byte := 46

/-- Tenths of a unit: whole part, a point, the tenths digit (R158). -/
def tenthsText (v : Nat) : Text := decimal (v / 10) ++ [point, digitByte v]

/-- A figure's value as a label writes it (R158): decibels with a sign, or ohms with one decimal place. -/
def figureText (f : Figure) (value : Int) : Text :=
  match f with
  | .impedance => tenthsText (roundDiv value 10).toNat
  | .response | .thd | .rub | .crest => (if value < 0 then dash else 43) :: tenthsText value.natAbs

/-- The value of the first stored finding of a kind (R158). -/
def firstValue (fs : List Finding) (f : Figure) : Option Int := (fs.find? fun x => decide (x.kind = figureKind f)).bind (·.value)

/-- The rendering of a field, from the Unit Record, its disposition and the Lot Record (R158). -/
def renderField (n : NestId) (r : UnitRecord) (d : Disposition) (l : LotCounters) : LabelField → Text
  | .literal t => t
  | .serial => l.serialPrefix ++ serialText r.serial
  | .lot => l.lotId
  | .gradeName => d.name
  | .bin => decimal d.bin
  | .nest => [78, digitByte n.val]
  | .figure f =>
    match firstValue r.findings f with
    | some v => figureText f v
    | none => [dash]
  | .lotCount => decimal l.counts.graded.value

/-- Joins the renderings with one "|" between each two (R160). -/
def joinFields : List Text → Text
  | [] => []
  | [t] => t
  | t :: rest => t ++ 124 :: joinFields rest

/-- The label record of a graded unit (R160). -/
def composeLabel (n : NestId) (r : UnitRecord) (d : Disposition) (l : LotCounters) : Label :=
  let text := joinFields (d.fields.map (renderField n r d l))
  { serial := r.serial, nest := n, text := text.take Config.labelChars, truncated := decide (Config.labelChars < text.length) }

end Sys2Proof.Machine
end

