-- ==== Sys2Proof/Machine/Lots.lean ====
section
/-! DEFINITION. The Lot Counters (chapter 8): counts (R140), serials (R141, R142), the update at a disposal (R144, R145), the rolling
yield window (R149, R150), consecutive fails (R152), and the changes at NEW_LOT and at a run start (R147, R151). -/

namespace Sys2Proof.Machine

open Sys2Proof

/-! ## Characters and serials -/

/-- A printable character (R158: codes 32 to 126). -/
def printable (b : Byte) : Bool := decide (32 ≤ b.toNat) && decide (b.toNat ≤ 126)

/-- A decimal digit. -/
def isDigit (b : Byte) : Bool := decide (48 ≤ b.toNat) && decide (b.toNat ≤ 57)

/-- The value of a run of decimal digits. -/
def digitsValue (t : Text) : Nat := t.foldl (fun v b => 10 * v + (b.toNat - 48)) 0

/-- The serial that a text of eight decimal digits names (R8, R146). -/
def parseSerial (t : Text) : Option Nat := if t.length = 8 ∧ t.all isDigit = true then some (digitsValue t) else none

/-! ## Counts (R140) -/

/-- An increment of a Lot Record count (R140). -/
def Count.bump (c : Count) : Count :=
  if c.value < Config.lotCount then { c with value := c.value + 1 } else { c with saturated := true }

/-- An increment where a condition holds. -/
def Count.bumpIf (b : Bool) (c : Count) : Count := if b then c.bump else c

/-! ## Unit starts (R141 to R143) -/

/-- The counter after its next serial is taken (R141, R142). -/
def LotCounters.takeSerial (l : LotCounters) : LotCounters :=
  if l.nextSerial < Config.lastSerial then { l with nextSerial := l.nextSerial + 1 } else { l with exhausted := true }

/-- The lot after a unit start: a serial is taken where no prior one is given, and the started count rises (R141, R143). -/
def LotCounters.start (l : LotCounters) (prior : Option Nat) : LotCounters :=
  let l' := if prior.isSome then l else l.takeSerial
  { l' with counts := { l'.counts with started := l'.counts.started.bump } }

/-! ## Disposals (R144, R145) -/

/-- The counts after the disposal of a graded unit: nest, whether its bin is 0, grade code, whether it is a retest (R144, items 1 to 3). -/
def LotCounts.addGraded (c : LotCounts) (n : NestId) (pass : Bool) (code : Nat) (retest : Bool) : LotCounts :=
  { c with
    graded := c.graded.bump
    perGrade := if h : code < 16 then c.perGrade.set code c.perGrade[code].bump else c.perGrade
    nestGraded := c.nestGraded.set n c.nestGraded[n].bump
    nestPassed := c.nestPassed.set n (c.nestPassed[n].bumpIf pass)
    firstGraded := c.firstGraded.bumpIf (!retest)
    firstPassed := c.firstPassed.bumpIf (!retest && pass)
    retestGraded := c.retestGraded.bumpIf retest
    retestPassed := c.retestPassed.bumpIf (retest && pass) }

/-- The counts after the disposal of an aborted unit (R145). -/
def LotCounts.addAborted (c : LotCounts) : LotCounts := { c with aborted := c.aborted.bump }

/-- The rolling window after an append (R149). -/
def LotCounters.append (l : LotCounters) (pass : Bool) : LotCounters :=
  if l.settings.window ≤ l.outcomes.length then
    { l with
      outcomes := l.outcomes.tail ++ [pass]
      passCount := l.passCount + (if pass then 1 else 0) - (if l.outcomes.headD false then 1 else 0) }
  else { l with outcomes := l.outcomes ++ [pass], passCount := l.passCount + (if pass then 1 else 0) }

/-- The yield check after an append (R150), with its event (R156). -/
def yieldCheck (serial : Nat) (n : NestId) (s : State) : State :=
  let l := s.lot
  if decide (l.outcomes.length = l.settings.window) && !l.yieldLow && decide (l.passCount < l.settings.threshold) then
    handOver (.yieldLow l.lotId l.settings.window l.settings.threshold l.passCount serial n) (s.setLot { l with yieldLow := true })
  else if l.yieldLow && decide (l.settings.threshold ≤ l.passCount) then
    handOver (.yieldRecovered l.lotId l.settings.window l.settings.threshold l.passCount (.append serial n))
      (s.setLot { l with yieldLow := false })
  else s

/-- The consecutive-fail count of a nest after a graded disposal (R152). -/
def nextFails (bin fails : Nat) : Nat := if bin = 0 then 0 else min 255 (fails + 1)

/-- The consecutive-fail update and its alert check, with its event (R152, R156). -/
def failCheck (n : NestId) (serial code bin : Nat) (s : State) : State :=
  let fails := nextFails bin s.lot.fails[n]
  let l := { s.lot with fails := s.lot.fails.set n fails }
  if decide (l.settings.failLimit ≠ 0) && decide (l.settings.failLimit ≤ fails) && !l.alerts[n] then
    handOver (.nestAlert n fails l.settings.failLimit serial code bin) (s.setLot { l with alerts := l.alerts.set n true })
  else s.setLot l

/-- The Lot Counters at the disposal of a graded unit, in the order of R144. -/
def countGraded (n : NestId) (r : UnitRecord) (d : Disposition) (s : State) : State :=
  let pass := decide (d.bin = 0)
  failCheck n r.serial d.code d.bin (yieldCheck r.serial n (s.setLot
    ({ s.lot with counts := s.lot.counts.addGraded n pass d.code r.prior.isSome }.append pass)))

/-- The Lot Counters at the disposal of an aborted unit (R145). -/
def countAborted (s : State) : State := s.setLot { s.lot with counts := s.lot.counts.addAborted }

/-! ## NEW_LOT and run start (R147, R151) -/

/-- The rolling window emptied and the yield warning cleared (R151). -/
def LotCounters.emptyWindow (l : LotCounters) : LotCounters := { l with outcomes := [], passCount := 0, yieldLow := false }

/-- YIELD_RECOVERED outside an append: raised where yield-low was set before (R151, R156). -/
def recoveredBy (cause : RecoveryCause) (was : Bool) (s : State) : State :=
  if was then handOver (.yieldRecovered s.lot.lotId s.lot.settings.window s.lot.settings.threshold s.lot.passCount cause) s else s

/-- The lot that an accepted NEW_LOT opens (R147). -/
def LotCounters.opened (l : LotCounters) (lotId serialPrefix : Text) (serial : Nat) : LotCounters :=
  { l.emptyWindow with
    isOpen := true
    lotId := lotId
    serialPrefix := serialPrefix
    nextSerial := serial
    exhausted := false
    counts := .zero
    fails := Vector.replicate 4 0 }

/-- An accepted NEW_LOT opens the lot (R147, R151). -/
def openLot (lotId serialPrefix : Text) (serial : Nat) (s : State) : State :=
  recoveredBy .newLot s.lot.yieldLow (s.setLot (s.lot.opened lotId serialPrefix serial))

/-- The settings that CONFIGURATION holds for the Lot Counters (R148). -/
def lotSettings (c : Configuration) : LotSettings := ⟨c.yieldWindow, c.yieldThreshold, c.failLimit⟩

/-- The Lot Counters at a run start (R148, R151). -/
def lotRunStart (s : State) : State :=
  let new := lotSettings s.tables.config
  let l := { s.lot with settings := new }
  if decide (new.window = s.lot.settings.window) && decide (new.threshold = s.lot.settings.threshold) then s.setLot l
  else recoveredBy .runStart s.lot.yieldLow (s.setLot l.emptyWindow)

end Sys2Proof.Machine
end

