-- ==== Sys2Proof/Machine/Steps.lean ====
section
/-! DEFINITION. Steps and windows (chapters 2 and 4): the settings of a step (R30), the entry into its phases (R36, R38, R39), the plan
walk (R31, R32), the end of a step (R73, items 3 to 5), the close of a window (R73, R74, R78), and the events SETTLE_END, PAIR_GRANT,
WINDOW_OPEN, LAST_WINDOW_FRAME, WINDOW_CLOSE and WINDOWLESS_STEP_END. An event is a partial function of the state: absent while its
condition does not hold. -/

namespace Sys2Proof.Machine

open Sys2Proof

/-- Takes an event if its condition holds, and leaves the state as it is otherwise (log entry 8). -/
def attempt (event : State → Option State) (s : State) : State := (event s).getD s

/-! ## Step settings (R30, R45) -/

/-- The segment at an index; an undefined one, which validation refuses, is a free value (log entry 14). -/
def segmentAt (t : Tables) (i : Nat) : Segment := ((t.segments[i]?).join).getD (Config.undefinedSegment i)

/-- The plan at an index: no entries beyond the table. -/
def planAt (t : Tables) (i : Nat) : Plan := (t.plans[i]?).getD ⟨[], 0, []⟩

/-- The segment index of the SEGMENT entry at a position of a plan. -/
def entrySegment (p : Plan) (e : Nat) : Nat :=
  match p.entries[e]? with
  | some (.segment i) => i
  | _ => Config.undefinedEntry e

/-- The class of a step (R45). -/
def classOf (ceiling : Int) (g : Segment) : StepClass :=
  if g.quiet then .quiet else if ceiling < g.level then .loud else .neutral

/-- The code of step j of a segment (R27). -/
def stepCode (g : Segment) (j : Nat) : Int := g.startCode + j * g.stepSize

/-- The step settings, fixed at step start from the segment (R30). `muted` says that the frames last played were muted: the step is
the first of its stay in TESTING, or follows a withdrawn one (R36). -/
def makeStep (t : Tables) (segment j : Nat) (retry muted : Bool) : Step :=
  let g := segmentAt t segment
  let code := (stepCode g j).toNat
  let cls := classOf t.config.quietCeiling g
  { segment := segment, step := j, code := code
    inc := BitVec.ofNat 32 (increment code)
    target := driveAmplitude g.level
    level := g.level
    ramp := g.rampFrames, settle := g.settleFrames, measure := g.measureFrames
    trim := g.trim, judge := g.judge, hlo := g.hlo, hhi := g.hhi
    cls := cls, retry := retry
    fromZero := decide (cls ≠ .neutral) || muted }

/-- The pair list of a step (R63). -/
def Step.pairs (st : Step) : List Pair := pairList st.judge st.inc.toNat st.hlo st.hhi

/-! ## Entering phases (R36, R38) -/

/-- The nest's entry into SETTLE: the ramp starts from a0 (R36). -/
def Nest.toSettle (x : Nest) : Nest :=
  { x with
    phase := some .settle
    count := 0
    synth := { x.synth with rampStart :=
      match x.step with
      | some st => if st.fromZero then 0 else x.synth.amplitude
      | none => 0 } }

/-- The nest's step start: its settings and its increment (R30), in GATE_WAIT. -/
def Nest.toGate (x : Nest) (st : Step) : Nest :=
  { x with phase := some .gateWait, step := some st, count := 0, synth := { x.synth with inc := st.inc } }

/-- Entry of a nest into SETTLE. -/
def enterSettle (n : NestId) (s : State) : State := s.modNest n Nest.toSettle

/-- Adds a nest to the tail of the Quiet Request Queue (R48). -/
def joinQuiet (n : NestId) (s : State) : State := s.setArbiter { s.arbiter with queue := s.arbiter.queue ++ [n] }

/-- Moves a nest past the loud gate: into the loud-past set, out of the loud-wait set (R51). -/
def passLoud (n : NestId) (s : State) : State :=
  s.setArbiter { s.arbiter with loudPast := s.arbiter.loudPast.set n true, loudWait := s.arbiter.loudWait.set n false }

/-- Puts a nest into the loud-wait set (R51). -/
def waitLoud (n : NestId) (s : State) : State := s.setArbiter { s.arbiter with loudWait := s.arbiter.loudWait.set n true }

/-- The way of a step that has its settings through GATE_WAIT, by its class (R38, R45, R48, R51). -/
def meetGate (n : NestId) (cls : StepClass) (s : State) : State :=
  match cls with
  | .neutral => enterSettle n s
  | .quiet => joinQuiet n s
  | .loud => if gateOpen s then enterSettle n (passLoud n s) else waitLoud n s

/-- Starts a step of a nest (R30, R38). -/
def startStep (n : NestId) (st : Step) (s : State) : State := meetGate n st.cls (s.modNest n (·.toGate st))

/-! ## The plan walk (R31, R32) -/

/-- Takes up plan entries from position `e` until a step starts or the plan ends (R31, R32): the new position and the repeat stack.
The fuel bounds the walk of a plan that validation would refuse (log entry 26). -/
def takeEntry (entries : List PlanEntry) : Nat → List RepeatContext → Nat → PlanPosition × List RepeatContext
  | 0, stack, _ => (.end_, stack)
  | fuel + 1, stack, e =>
    match entries[e]? with
    | none => (.end_, stack)
    | some (.segment _) => (.at_ e 0, stack)
    | some (.again back count) =>
      match stack.find? fun c => c.entry == e with
      | none => takeEntry entries fuel (stack ++ [⟨e, count⟩]) (e - back)
      | some c =>
        if 1 < c.remaining then
          takeEntry entries fuel (stack.map fun d => if d.entry = e then { d with remaining := d.remaining - 1 } else d) (e - back)
        else takeEntry entries fuel (stack.filter fun d => !(d.entry == e)) (e + 1)

/-- The fuel of a walk: a validated plan takes at most 32 entries in one event. -/
def walkFuel : Nat := 64

/-- The nest's entry into FINISHING, or return to it, with plan position END (R12, R33). -/
def enterFinishing (n : NestId) (s : State) : State :=
  (s.modNest n fun x => { x with state := .finishing, phase := none, step := none }).modRecord n
    fun r => { r with position := .end_ }

/-- Brings the plan position of a nest to rest on AT (e, j) and starts that step. -/
def startAt (n : NestId) (r : UnitRecord) (e j : Nat) (muted : Bool) (s : State) : State :=
  startStep n (makeStep s.tables (entrySegment (planAt s.tables r.plan) e) j false muted)
    (s.modRecord n fun r => { r with position := .at_ e j })

/-- The advance of the walk at the end of a step (R31). `muted` says that the step was withdrawn in GATE_WAIT (R36). -/
def advance (n : NestId) (muted : Bool) (s : State) : State :=
  match (s.nest n).record with
  | none => s
  | some r =>
    match r.position with
    | .end_ => s
    | .retry _ _ => enterFinishing n s
    | .at_ e j =>
      let p := planAt s.tables r.plan
      if j + 1 < (segmentAt s.tables (entrySegment p e)).stepCount then startAt n r e (j + 1) muted s
      else
        let w := takeEntry p.entries walkFuel r.repeats (e + 1)
        let s' := s.modRecord n fun r => { r with repeats := w.2 }
        match w.1 with
        | .at_ e' j' => startAt n r e' j' muted s'
        | _ => enterFinishing n s'

/-! ## The end of a step (R50, R51, R68) -/

/-- Takes a nest out of the Quiet Request Queue and the three places of the Quiet Arbiter (R50, R51, R52). -/
def Arbiter.release (a : Arbiter) (n : NestId) : Arbiter where
  queue := a.queue.filter fun m => !(m == n)
  holder := if a.holder = some n then none else a.holder
  loudPast := a.loudPast.set n false
  loudWait := a.loudWait.set n false

/-- Releases quiet, the loud-past place and a queue entry of a nest. -/
def releaseQuiet (n : NestId) (s : State) : State := s.setArbiter (s.arbiter.release n)

/-- Returns the pairs a nest holds to the bank (R68). -/
def returnPairs (n : NestId) (s : State) : State :=
  (s.setBank { s.bank with free := s.bank.free + (s.nest n).pairs.length }).modNest n fun x => { x with pairs := [] }

/-- The end of a step of a nest: its pairs return, quiet and the loud-past place are released, and the walk advances (R73, items 3 to
5; R44; R60, item 3). -/
def endStep (n : NestId) (muted : Bool) (s : State) : State := advance n muted (releaseQuiet n (returnPairs n s))

/-! ## Closing a window (R73 to R76, R78, R92) -/

/-- The watch entry of a nest has its ambient mark set (R92). -/
def watchMarked (g : Guard) (n : NestId) : Bool := g.watch.any fun e => e.nest == n && e.mark

/-- The Window Store record of a nest's window (R74), with its taint (R75, R92). -/
def windowRecord (s : State) (n : NestId) (r : UnitRecord) (st : Step) : WindowRecord :=
  let x := s.nest n
  { nest := n, serial := r.serial, retryRun := st.retry, segment := st.segment, step := st.step, code := st.code
    level := st.level, judge := st.judge, cls := st.cls, mEff := x.count, lastFrame := x.lastFrame, peak := x.peak
    sums := x.pairs, overload := x.overload
    taint := if x.overload then .overload else if watchMarked s.guard n then .ambient else .none }

/-- Inserts a record into Guard Hold, after every record whose last frame is at or before its own (R78). -/
def insertHold (w : WindowRecord) : List WindowRecord → List WindowRecord
  | [] => [w]
  | v :: rest => if v.lastFrame ≤ w.lastFrame then v :: insertHold w rest else w :: v :: rest

/-- Removes the watch entry of a nest (R92, R95). -/
def unwatch (n : NestId) (s : State) : State :=
  s.setGuard { s.guard with watch := s.guard.watch.filter fun e => !(e.nest == n) }

/-- A free record is taken, placed in Guard Hold, and the nest leaves the close-wait list (R73 item 1, R76). -/
def Store.takeRecord (x : Store) (n : NestId) (w : WindowRecord) : Store :=
  { x with free := x.free - 1, guardHold := insertHold w x.guardHold, closeWait := x.closeWait.filter fun m => !(m == n) }

/-- A nest closes its window into a free record (R73). -/
def closeWindow (n : NestId) (s : State) : State :=
  match (s.nest n).record, (s.nest n).step with
  | some r, some st =>
    endStep n false ((unwatch n (s.setStore (s.store.takeRecord n (windowRecord s n r st)))).modRecord n
      fun r => { r with pending := r.pending + 1 })
  | _, _ => s.setStore { s.store with closeWait := s.store.closeWait.filter fun m => !(m == n) }

/-! ## The events of a step -/

/-- Creates the watch entry of a nest whose window opens; the next frame event is its first window frame (R92). -/
def watch (n : NestId) (cls : StepClass) (s : State) : State :=
  s.setGuard { s.guard with
    watch := s.guard.watch ++ [⟨n, if cls = .quiet then .quiet else .normal, s.conv.frameNumber, none, false⟩] }

/-- A nest joins the tail of the Allocation Queue with its n (R66). -/
def joinAllocation (n : NestId) (k : Nat) (s : State) : State :=
  s.setBank { s.bank with queue := s.bank.queue ++ [(n, k)] }

/-- SETTLE_END (R39, R66): at the end of the S-th frame of SETTLE the step enters MEASURE without a window, or ALLOC_WAIT with its
request. -/
def settleEnd (n : NestId) (s : State) : Option State :=
  match (s.nest n).phase, (s.nest n).step with
  | some .settle, some st =>
    if st.settle ≤ (s.nest n).count then
      if judgesNothing st.judge then some (s.modNest n fun x => { x with phase := some .measure, count := 0 })
      else some (joinAllocation n st.pairs.length (s.modNest n fun x => { x with phase := some .allocWait }))
    else none
  | _, _ => none

/-- SETTLE of 0 frames ends within the event that enters it (R39). -/
def zeroSettle (n : NestId) (s : State) : Option State :=
  if (s.nest n).step.any fun st => decide (st.settle = 0) then settleEnd n s else none

/-- The nest takes its pairs with zero sums and leaves ALLOC_WAIT for MEASURE or OPEN_WAIT (R67, R40). -/
def Nest.toWindow (x : Nest) (st : Step) : Nest :=
  { x with
    phase := some (if st.trim then .openWait else .measure)
    count := 0
    pairs := st.pairs
    peak := 0
    overload := false
    synth := { x.synth with wrapped := false } }

/-- PAIR_GRANT (R67): the head of the Allocation Queue receives its pairs once the free count allows. -/
def pairGrant (s : State) : Option State :=
  match s.bank.queue with
  | [] => none
  | (n, k) :: rest =>
    if k ≤ s.bank.free then
      match (s.nest n).step with
      | none => some (s.setBank { s.bank with queue := rest })
      | some st =>
        let s' := (s.setBank { free := s.bank.free - k, queue := rest }).modNest n (·.toWindow st)
        some (if st.trim then s' else watch n st.cls s')
    else none

/-- WINDOW_OPEN (R41): at the end of the first wrap frame of OPEN_WAIT the window opens. -/
def windowOpen (n : NestId) (s : State) : Option State :=
  match (s.nest n).phase, (s.nest n).step with
  | some .openWait, some st =>
    if (s.nest n).synth.wrapped then
      some (watch n st.cls (s.modNest n fun x => { x with phase := some .measure, count := 0 }))
    else none
  | _, _ => none

/-- The window has had its last frame: M frames without trim, and with trim the first wrap frame from the M-th (R42). -/
def windowEnded (x : Nest) (st : Step) : Bool :=
  decide (st.measure ≤ x.count) && (!st.trim || x.synth.wrapped)

/-- A nest's window is open: MEASURE with a judge set, before the end of the last window frame (R42, R44). -/
def windowIsOpen (x : Nest) : Bool :=
  match x.phase, x.step with
  | some .measure, some st => !judgesNothing st.judge && !windowEnded x st
  | _, _ => false

/-- LAST_WINDOW_FRAME (R42, R73, R76): the window closes when a record is free and no nest waits for one, and the step enters CLOSE_WAIT
otherwise. -/
def lastWindowFrame (n : NestId) (s : State) : Option State :=
  match (s.nest n).phase, (s.nest n).step with
  | some .measure, some st =>
    if !judgesNothing st.judge && windowEnded (s.nest n) st then
      if decide (0 < s.store.free) && s.store.closeWait.isEmpty then some (closeWindow n s)
      else some ((s.modNest n fun x => { x with phase := some .closeWait }).setStore
        { s.store with closeWait := s.store.closeWait ++ [n] })
    else none
  | _, _ => none

/-- WINDOW_CLOSE (R73, R76): a free record is given to the head of the close-wait list, which closes its window. -/
def windowClose (s : State) : Option State :=
  match s.store.closeWait with
  | [] => none
  | n :: _ => if 0 < s.store.free then some (closeWindow n s) else none

/-- WINDOWLESS_STEP_END (R44): a step with an empty judge set ends after M frames. -/
def windowlessStepEnd (n : NestId) (s : State) : Option State :=
  match (s.nest n).phase, (s.nest n).step with
  | some .measure, some st =>
    if judgesNothing st.judge && decide (st.measure ≤ (s.nest n).count) then some (endStep n false s) else none
  | _, _ => none

end Sys2Proof.Machine
end

