-- ==== Sys2Proof/Machine/Quiet.lean ====
section
/-! DEFINITION. The Quiet Arbiter's two decisions (R49, R51), the Permit Interface's passing conditions (R58), its two timers (R58,
R59) and its out cycle (R57). -/

namespace Sys2Proof.Machine

open Sys2Proof

/-! ## The Quiet Arbiter -/

/-- No nest is in the loud-past set (R49). -/
def loudPastEmpty (a : Arbiter) : Bool := nestIds.all fun n => !a.loudPast[n]

/-- QUIET_GRANT (R49): the head of the Quiet Request Queue becomes the quiet holder and enters SETTLE. -/
def quietGrant (s : State) : Option State :=
  match s.arbiter.queue with
  | [] => none
  | n :: rest =>
    if s.arbiter.holder.isNone && permitAvailable s && loudPastEmpty s.arbiter then
      some (enterSettle n (s.setArbiter { s.arbiter with queue := rest, holder := some n }))
    else none

/-- A nest of the loud-wait set passes the open gate into SETTLE (R51). -/
def passIfWaiting (s : State) (n : NestId) : State :=
  if s.arbiter.loudWait[n] then enterSettle n (passLoud n s) else s

/-- LOUD_GATE_PASS (R51): with the gate open, every nest of the loud-wait set passes. -/
def loudGatePass (s : State) : Option State :=
  if gateOpen s && nestIds.any fun n => s.arbiter.loudWait[n] then some (nestIds.foldl passIfWaiting s) else none

/-! ## The Permit Interface -/

/-- The passing conditions (R58): the permit is held, there is no quiet holder, and the queue is empty or the hold timer has passed the
hold limit. -/
def passDue (s : State) : Bool :=
  s.permit.held && s.arbiter.holder.isNone && (s.arbiter.queue.isEmpty || s.permit.holdTimer.any Timer.expired)

/-- The permit is passed when a passing condition holds (R58). -/
def permitPass (s : State) : Option State := if passDue s then some (s.setPermit s.permit.pass) else none

/-- The conditions under which the wait timer runs (R59). -/
def waitCondition (s : State) : Bool :=
  decide (role s ≠ .solo) && s.run.mode.running && !s.arbiter.queue.isEmpty && !s.permit.held

/-- The wait timer starts from 0, or stops, at the event at which its conditions come, or cease, to hold (R59). -/
def waitTimerChange (s : State) : Option State :=
  if waitCondition s && s.permit.waitTimer.isNone then some (s.setPermit { s.permit with waitTimer := some .start })
  else if !waitCondition s && s.permit.waitTimer.isSome then some (s.setPermit { s.permit with waitTimer := none })
  else none

/-- HOLD_LIMIT_EXPIRY (R58): the hold timer passes the hold limit; the pass waits for a quiet holder's release. -/
def holdLimitExpiry (s : State) : Option State :=
  if s.permit.held && timerDue (ms s.tables.config.holdLimit) s.permit.holdTimer then
    some (s.setPermit { s.permit with holdTimer := s.permit.holdTimer.map fun t => { t with expired := true } })
  else none

/-- Frames of a pulse, and of a gap, on PERMIT_OUT (R57). -/
def permitFrames : Nat := 2

/-- PERMIT_PULSE_END (R57): after two frames high the gap begins. -/
def permitPulseEnd (s : State) : Option State :=
  match s.permit.cycle with
  | .pulse k => if permitFrames ≤ k then some (s.setPermit { s.permit with cycle := .gap 0 }) else none
  | _ => none

/-- PERMIT_GAP_END (R57): after two frames low the cycle is idle, or a pending pulse starts at once. -/
def permitGapEnd (s : State) : Option State :=
  match s.permit.cycle with
  | .gap k =>
    if permitFrames ≤ k then
      some (s.setPermit { s.permit with
        cycle := if s.permit.pendingOut then .pulse 0 else .idle
        pendingOut := false })
    else none
  | _ => none

/-- One frame of the out cycle (R57). -/
def OutCycle.frame : OutCycle → OutCycle
  | .idle => .idle
  | .pulse k => .pulse (k + 1)
  | .gap k => .gap (k + 1)

/-- The level of PERMIT_OUT (R57). -/
def permitOut (p : Permit) : Bool :=
  match p.cycle with
  | .pulse _ => true
  | _ => false

end Sys2Proof.Machine
end

