-- ==== Sys2Proof/Machine/Units.lean ====
section
/-! DEFINITION. The unit lifecycle up to disposal (chapter 1): unit start and autostart (R9, R10), the fixture events in each nest state
(R3, R6, R7, R15 to R17), and the abort (R17, R19 to R21). -/

namespace Sys2Proof.Machine

open Sys2Proof

/-! ## Unit start (R9, R10) -/

/-- The Unit Record at unit start (R4). -/
def UnitRecord.start (serial : Nat) (prior : Option Nat) (plan : Nat) : UnitRecord where
  serial := serial
  prior := prior
  plan := plan
  findings := []
  overflow := 0
  rows := []
  tally := Tally.zero
  retriesUsed := 0
  pending := 0
  retryList := []
  repeats := []
  position := .at_ 0 0
  disposition := none
  abort := none

/-- The nest at unit start: TESTING with its new Unit Record, the phase accumulator at 0 and the outputs low (R9). -/
def Nest.begin (x : Nest) (r : UnitRecord) : Nest :=
  { x with
    state := .testing
    phase := none
    record := some r
    gone := false
    stall := none
    pass := false
    reject := false
    step := none
    synth := { x.synth with phase := 0 } }

/-- A unit start on a nest (R9, R141, R143). -/
def startUnit (n : NestId) (plan : Nat) (prior : Option Nat) (s : State) : State :=
  let r := UnitRecord.start (prior.getD s.lot.nextSerial) prior plan
  startAt n r 0 0 true ((s.setLot (s.lot.start prior)).modNest n (·.begin r))

/-- The conditions of autostart (R10). -/
def autostarts (s : State) (n : NestId) : Bool :=
  decide (s.run.mode = .run) && s.tables.config.autostart[n] && !s.lot.alerts[n] && s.lot.isOpen && !s.lot.exhausted

/-- The nest's entry into LOADED, where autostart is tried (R6, R10). -/
def enterLoaded (n : NestId) (s : State) : State :=
  let s' := s.modNest n fun x => { x with state := .loaded }
  if autostarts s' n then startUnit n s'.tables.config.defaultPlan[n] none s' else s'

/-- The nest in EMPTY: no Unit Record, outputs low (R6, R16). -/
def Nest.emptied (x : Nest) : Nest :=
  { x with state := .empty, phase := none, record := none, gone := false, stall := none, pass := false, reject := false, step := none }

/-- The nest's entry into EMPTY; a nest already present and clamped goes on to LOADED (R6). -/
def enterEmpty (n : NestId) (s : State) : State :=
  let s' := s.modNest n Nest.emptied
  if presentAndClamped s' n then enterLoaded n s' else s'

/-! ## Abort (R17, R19 to R21) -/

/-- A unit under test: TESTING or FINISHING (R17). -/
def NestState.underTest : NestState → Bool
  | .testing | .finishing => true
  | .empty | .loaded | .disposing | .disposed => false

/-- Takes a nest's entry out of the Allocation Queue (R68). -/
def leaveAllocation (n : NestId) (s : State) : State :=
  s.setBank { s.bank with queue := s.bank.queue.filter fun e => !(e.1 == n) }

/-- Takes a nest out of the close-wait list (R76). -/
def leaveCloseWait (n : NestId) (s : State) : State :=
  s.setStore { s.store with closeWait := s.store.closeWait.filter fun m => !(m == n) }

/-- Whether a record names a nest. -/
def WindowRecord.ofNest (n : NestId) (w : WindowRecord) : Bool := w.nest == n

/-- The records of a nest in Guard Hold and the Judge Queue. -/
def Store.waitingOf (x : Store) (n : NestId) : Nat :=
  (x.guardHold.filter (WindowRecord.ofNest n)).length + (x.judgeQueue.filter (WindowRecord.ofNest n)).length

/-- The store with a nest's records in Guard Hold and the Judge Queue removed and freed (R20, R81). -/
def Store.drop (x : Store) (n : NestId) : Store :=
  { x with
    free := x.free + x.waitingOf n
    guardHold := x.guardHold.filter fun w => !(w.ofNest n)
    judgeQueue := x.judgeQueue.filter fun w => !(w.ofNest n) }

/-- Frees a nest's records in Guard Hold and the Judge Queue, with its pending-window count (R20). -/
def dropRecords (n : NestId) (s : State) : State :=
  let k := s.store.waitingOf n
  (s.setStore (s.store.drop n)).modRecord n fun r => { r with pending := r.pending - k }

/-- The claims of R19 on the shared blocks, released in whatever phase the nest is. -/
def releaseClaims (n : NestId) (s : State) : State :=
  unwatch n (leaveCloseWait n (leaveAllocation n (releaseQuiet n (returnPairs n s))))

/-- The Unit Record at an abort: the reason set, the Retry List and the repeat stack emptied (R17, R19). -/
def UnitRecord.aborted (r : UnitRecord) (reason : AbortReason) : UnitRecord :=
  { r with abort := some reason, retryList := [], repeats := [] }

/-- The nest at its entry into DISPOSING (R13, R21). -/
def Nest.toDisposing (x : Nest) (gone : Bool) : Nest :=
  { x with state := .disposing, phase := none, step := none, gone := gone, stall := some .start }

/-- A nest joins the nests in DISPOSING, in order of entry (R162). -/
def joinDisposing (n : NestId) (s : State) : State := s.setDisposing (s.disposing ++ [n])

/-- The abort of the unit of a nest in TESTING or FINISHING (R17, R19 to R21). -/
def abortUnit (n : NestId) (reason : AbortReason) (s : State) : State :=
  if (s.nest n).state.underTest then
    let s' := dropRecords n (releaseClaims n s)
    joinDisposing n ((s'.modRecord n (·.aborted reason)).modNest n (·.toDisposing (!isPresent s n)))
  else s

/-- The aborts of one mode event, in ascending nest order (R17). -/
def abortAll (reason : AbortReason) (s : State) : State := nestIds.foldl (fun s n => abortUnit n reason s) s

/-! ## Fixture events (R3) -/

/-- LOAD (R6, R15, R16): only an EMPTY nest takes it. -/
def loadEvent (n : NestId) (s : State) : State :=
  match (s.nest n).state with
  | .empty => enterLoaded n s
  | _ => s

/-- PRESENT-fall in each nest state (R6, R7, R15 to R17). -/
def presentFall (n : NestId) (s : State) : State :=
  match (s.nest n).state with
  | .empty => s
  | .loaded => enterEmpty n s
  | .testing | .finishing => abortUnit n .removed s
  | .disposing => s.modNest n fun x => { x with gone := true }
  | .disposed => enterEmpty n s

/-- CLAMP-fall in each nest state (R6, R7, R15 to R17). -/
def clampFall (n : NestId) (s : State) : State :=
  match (s.nest n).state with
  | .empty | .disposing | .disposed => s
  | .loaded => enterEmpty n s
  | .testing | .finishing => abortUnit n .removed s

/-- The delivery of a debounced edge to the blocks that use the input (R1, R3, R199). The other users read the debounced state. -/
def deliverEdge (i : Input) (rising : Bool) (s : State) : State :=
  match i with
  | .present n => if rising then (if isClamped s n then loadEvent n s else s) else presentFall n s
  | .clamp n => if rising then (if isPresent s n then loadEvent n s else s) else clampFall n s
  | .alertClr => if rising then s.setPort { s.port with alertPending := Vector.replicate 8 false } else s
  | .engEnable | .markerReady => s

/-- The hold of an input ends: its debounced state takes the level, and the edge is delivered (R1). -/
def takeEdge (i : Input) (s : State) : State :=
  let x := s.inputs.get i
  deliverEdge i x.level (s.setInputs (s.inputs.set i ⟨x.level, x.level, none⟩))

/-- DEBOUNCED_EDGE (R1): a hold has lasted the debounce time. -/
def debouncedEdge (i : Input) (s : State) : Option State :=
  match (s.inputs.get i).hold with
  | some t => if ms s.tables.config.debounce ≤ t then some (takeEdge i s) else none
  | none => none

/-- An input at a new level: a hold starts where the level differs from the debounced state, and is abandoned where it returns (R1). -/
def InputState.toLevel (x : InputState) (level : Bool) : InputState :=
  if level = x.debounced then { x with level := level, hold := none }
  else { x with level := level, hold := some (x.hold.getD 0) }

end Sys2Proof.Machine
end

