-- ==== Sys2Proof/Machine/Judging.lean ====
section
/-! DEFINITION. The Figure Unit's taking and completion (R98, R100, R101, R119, R120), and the nest in FINISHING: the retry start (R127)
and the grading (R133). -/

namespace Sys2Proof.Machine

open Sys2Proof

/-! ## The Figure Unit -/

/-- FIGURE_UNIT_TAKE (R98): the idle Figure Unit takes the head of the Judge Queue. -/
def figureUnitTake (s : State) : Option State :=
  match s.store.computing, s.store.judgeQueue with
  | none, w :: rest => some (s.setStore { s.store with judgeQueue := rest, computing := some ⟨w, 0⟩ })
  | _, _ => none

/-- Whether the step-report rule of a nest asks for a report of these findings (R119). -/
def wantsReport (rule : ReportRule) (fs : List Finding) : Bool :=
  match rule with
  | .off => false
  | .all => true
  | .fails => fs.any fun f => decide (f.outcome ≠ .pass)

/-- The STEP_REPORT of a completion (R120); `key` says whether the key was appended, absent for an untainted record. -/
def stepReport (w : WindowRecord) (fs : List Finding) (key : Option Bool) : StepReport where
  nest := w.nest
  serial := w.serial
  retryRun := w.retryRun
  segment := w.segment
  step := w.step
  code := w.code
  cls := w.cls
  mEff := w.mEff
  lastFrame := w.lastFrame
  taint := w.taint
  micLevel := if w.taint = .none then fundamentalLevel w .mic else none
  curLevel := if w.taint = .none then fundamentalLevel w .cur else none
  retryKey := key
  findings := fs

/-- Whether the key of a record just judged joins the Retry List, absent for an untainted record (R117, R118, R125). -/
def keyDecision (r : UnitRecord) (budget : Nat) (w : WindowRecord) : Option Bool :=
  if w.taint = .none then none else some (r.admitsKey budget ⟨w.segment, w.step⟩)

/-- The Unit Record after a completion: the findings entered, the key offered, the pending-window count decremented (R100, items 2 to
4). -/
def UnitRecord.complete (r : UnitRecord) (budget : Nat) (w : WindowRecord) (fs : List Finding) : UnitRecord :=
  let r' := r.enterRun w.retryRun w.segment w.step fs
  let r'' := if w.taint = .none then r' else r'.offerKey budget ⟨w.segment, w.step⟩
  { r'' with pending := r''.pending - 1 }

/-- Offers the STEP_REPORT of a completion where the nest's setting asks for one (R100, item 5; R119). -/
def offerStepReport (w : WindowRecord) (fs : List Finding) (key : Option Bool) (s : State) : State :=
  if wantsReport (reportOf s.tables.config.stepReport[w.nest]) fs then
    s.setPort (s.port.offerStepReport (stepReport w fs key))
  else s

/-- The record in computation becomes free and the Figure Unit idle (R100, item 6). -/
def freeComputed (s : State) : State := s.setStore { s.store with free := s.store.free + 1, computing := none }

/-- The completion of a record whose unit is not aborted (R100, items 1 to 6). -/
def judgeRecord (r : UnitRecord) (w : WindowRecord) (s : State) : State :=
  let budget := (planAt s.tables r.plan).budget
  let fs := recordFindings s.tables w
  let key := keyDecision (r.enterRun w.retryRun w.segment w.step fs) budget w
  freeComputed (offerStepReport w fs key (s.modRecord w.nest fun r => r.complete budget w fs))

/-- The completion of a record whose unit is aborted: only the count and the record change (R101). -/
def discardRecord (w : WindowRecord) (s : State) : State :=
  freeComputed (s.modRecord w.nest fun r => { r with pending := r.pending - 1 })

/-- FIGURE_UNIT_COMPLETION (R100, R101). -/
def figureUnitCompletion (s : State) : Option State :=
  match s.store.computing with
  | none => none
  | some c =>
    match (s.nest c.record.nest).record with
    | none => some (freeComputed s)
    | some r => some (if r.abort.isSome then discardRecord c.record s else judgeRecord r c.record s)

/-- The bound of R99: the completion comes no later than the 48th frame event after the taking. -/
def computationOverdue (s : State) : Option State :=
  if s.store.computing.any fun c => decide (Config.computeFrames ≤ c.frames) then figureUnitCompletion s else none

/-! ## FINISHING (R12) -/

/-- The Unit Record of a nest in FINISHING whose pending-window count is 0 (R12). -/
def finishedRecord (s : State) (n : NestId) : Option UnitRecord :=
  if (s.nest n).state = .finishing then (s.nest n).record.filter fun r => decide (r.pending = 0) else none

/-- RETRY_START (R127): the head key is removed, retries used rises, and the nest re-enters TESTING for that step. -/
def retryStart (n : NestId) (s : State) : Option State :=
  match finishedRecord s n with
  | none => none
  | some r =>
    match r.retryList with
    | [] => none
    | k :: rest =>
      let s' := (s.modNest n fun x => { x with state := .testing }).modRecord n fun r =>
        { r with retryList := rest, retriesUsed := r.retriesUsed + 1, position := .retry k.segment k.step }
      some (startStep n (makeStep s.tables k.segment k.step true true) s')

/-- The fields of a template; an undefined one, which validation refuses as detail 501, is a free value (log entry 14). -/
def templateFields (t : Tables) (i : Nat) : List LabelField := ((t.templates[i]?).join).getD (Config.undefinedTemplate i)

/-- The disposition that a rule gives, with a copy of the named template's fields (R133, R157). -/
def dispositionOf (t : Tables) (g : GradeRule) : Disposition where
  code := g.code
  name := g.name
  bin := g.bin
  template := g.template
  fields := (g.template.map (templateFields t)).getD []

/-- The rule of a grading; where no defined rule holds, which validation rules out, a free value (log entry 14). -/
def gradingRule (t : Tables) (r : UnitRecord) (n : NestId) : GradeRule :=
  (firstRule t.grades.toList r n).getD (Config.unmatchedRule r.tally)

/-- GRADING (R133, R13): the first rule that holds gives the disposition, and the nest enters DISPOSING. -/
def grading (n : NestId) (s : State) : Option State :=
  match finishedRecord s n with
  | none => none
  | some r =>
    if r.retryList.isEmpty then
      some (joinDisposing n ((s.modRecord n fun r =>
        { r with disposition := some (dispositionOf s.tables (gradingRule s.tables r n)) }).modNest n (·.toDisposing false)))
    else none

end Sys2Proof.Machine
end

