-- ==== Sys2Proof/Machine/RunControl.lean ====
section
/-! DEFINITION. The Run Controller (chapter 10): leaving a running mode (R178, R61, R84), the mode effect of a fault (R180), the start of
a run (R175), the entry into HELD (R176), and with them the Permit Interface's arrival and timeout (R55, R56, R59, R60), the
declaration of sync loss (R188, R72) and DISPOSAL_STALL (R15). -/

namespace Sys2Proof.Machine

open Sys2Proof

/-! ## Leaving and entering the running modes -/

/-- The Permit Interface at the leaving of a running mode: one pass when the permit is held or latched, then nothing held (R61). -/
def Permit.leave (p : Permit) (solo : Bool) : Permit :=
  { (if !solo && (p.held || p.latch) then p.sendPulse else p) with
    held := false, latch := false, due := false, holdTimer := none, waitTimer := none }

/-- The leaving of RUN, HOLDING or HELD for STANDBY or STOPPED, items 2 to 5 of R178. -/
def leaveRunning (mode : Mode) (cause : ModeCause) (s : State) : State :=
  let s' := abortAll .stopped s
  changeMode mode cause ((s'.setPermit (s'.permit.leave (decide (role s' = .solo)))).setGuard Guard.start)

/-- The mode effect of a fault (R180). -/
def applyStop (kind : FaultKind) (action : Action) (s : State) : State :=
  if decide (action = .stop) && s.run.mode.running then leaveRunning .stopped (.fault kind) s else s

/-- The permit of the part that enters RUN: FIRST takes it (R61). -/
def permitRunStart (s : State) : State :=
  if role s = .first then s.setPermit s.permit.take else s

/-- The event in which the part enters RUN from STANDBY (R175). -/
def enterRun (s : State) : State :=
  changeMode .run .startRun
    (lotRunStart (permitRunStart ((s.setConv { s.conv with frameNumber := 0 }).setGuard Guard.start)))

/-- HELD_REACHED (R176): a holding part with no unit in flight enters HELD. -/
def heldReached (s : State) : Option State :=
  if decide (s.run.mode = .holding) && nestIds.all fun n => !(s.nest n).state.inFlight then
    some (changeMode .held .heldReached s)
  else none

/-! ## The permit's arrival (R54 to R56) -/

/-- PERMIT_ARRIVAL: a latch that a frame event has followed is consumed (R54), and the arrival is taken by the mode and the
permit-held flag (R55, R56). The pass of R55 on an empty queue is the passing condition of R58. -/
def permitArrival (s : State) : Option State :=
  if s.permit.latch && s.permit.due then
    let s' := s.setPermit { s.permit with latch := false, due := false }
    if role s = .solo then some s'
    else if !s.run.mode.running then some (s'.setPermit s'.permit.sendPulse)
    else if !s.permit.held then some (s'.setPermit s'.permit.take)
    else
      let a := actionOf s.tables.config.actionDuplicate
      some (applyStop .permitDuplicate a (recordFault .permitDuplicate .none none none none none a s'))
  else none

/-! ## PERMIT_TIMEOUT (R59, R60) -/

/-- Records the QUIET_UNAVAILABLE finding of a withdrawn step and ends the step in GATE_WAIT (R60, items 1 and 3). A nest that is then in
FINISHING starts its next retry before the next withdrawn nest moves on (R128, R12), so that the nests whose next step is quiet rejoin
in the former queue order (R60). A grading is left to the end of the event, because nests that enter DISPOSING in one event do so in
ascending nest order (R162). -/
def withdrawStep (s : State) (n : NestId) : State :=
  match (s.nest n).step with
  | none => s
  | some st =>
    attempt (retryStart n) (endStep n true (s.modRecord n fun r =>
      r.enterRun st.retry st.segment st.step [invalidFinding st.segment st.step st.code .quietUnavailable]))

/-- The withdrawal of every queued quiet request, in queue order: the queue is emptied before any of the nests moves on (R60). -/
def withdrawAll (s : State) : State :=
  s.arbiter.queue.foldl withdrawStep
    ((s.setArbiter { s.arbiter with queue := [] }).setPermit { s.permit with waitTimer := none })

/-- The fault record of a PERMIT_TIMEOUT: role, head of the queue and its step (R59, R179). -/
def recordTimeout (action : Action) (s : State) : State :=
  let head := s.arbiter.queue.head?
  let step := head.bind fun n => (s.nest n).step
  recordFault .permitTimeout (.role (role s)) head (head.bind fun n => (s.nest n).record.map (·.serial))
    (step.map (·.segment)) (step.map (·.step)) action s

/-- PERMIT_TIMEOUT (R59): the wait timer passes the wait limit. -/
def permitTimeout (s : State) : Option State :=
  if waitCondition s && timerDue (ms s.tables.config.waitLimit) s.permit.waitTimer then
    let a := actionOf s.tables.config.actionTimeout
    let s' := recordTimeout a s
    match role s with
    | .solo => none
    | .first => some (applyStop .permitTimeout a (s'.setPermit s'.permit.take))
    | .member =>
      match a with
      | .continue_ => some (withdrawAll s')
      | .stop => some (applyStop .permitTimeout a s')
  else none

/-! ## Sync loss (R188, R72) -/

/-- Sets the overload flag of an open window (R72). -/
def overloadIfOpen (x : Nest) : Nest := if windowIsOpen x then { x with overload := true } else x

/-- The declaration of sync loss: LOST, the open windows' overload flags, and CONVERTER_SYNC_LOST with its fixed action (R188, R72,
R179). -/
def declareLoss (s : State) : State :=
  let s' := (s.setConv { s.conv with inSync := false }).setNests (s.nests.map overloadIfOpen)
  applyStop .converterSyncLost .stop (recordFault .converterSyncLost .none none none none none .stop s')

/-! ## DISPOSAL_STALL (R15) -/

/-- A nest's UNIT_REPORT needs a Label Queue place as well: a graded unit whose template is not NONE (R161). -/
def needsLabel (r : UnitRecord) : Bool := r.disposition.any fun d => d.template.isSome

/-- A Label Queue place is available (R161). -/
def labelAvailable (m : Marker) : Bool := decide (m.labels.length < Config.labelPlaces)

/-- What a stalled disposal found unavailable (R179); a free value while both queues have a place (log entry 15). -/
def stallDetail (s : State) (n : NestId) (r : UnitRecord) : StallDetail :=
  let resultFull := !nonReplyAvailable s.port
  let labelFull := needsLabel r && !labelAvailable s.marker
  if resultFull && labelFull then .both
  else if resultFull then .resultQueue
  else if labelFull then .labelQueue
  else Config.stallWithPlaces n

/-- DISPOSAL_STALL (R15): the stall timer passes the stall limit while the nest is in DISPOSING, once per stay. -/
def disposalStall (n : NestId) (s : State) : Option State :=
  match (s.nest n).state, (s.nest n).record with
  | .disposing, some r =>
    if timerDue (ms (1000 * s.tables.config.stallLimit)) (s.nest n).stall then
      let a := actionOf s.tables.config.actionStall
      let s' := s.modNest n fun x => { x with stall := x.stall.map fun t => { t with expired := true } }
      some (applyStop .disposalStall a
        (recordFault .disposalStall (.stall (stallDetail s n r)) (some n) (some r.serial) none none a s'))
    else none
  | _, _ => none

end Sys2Proof.Machine
end

