-- ==== Sys2Proof/Machine/Disposal.lean ====
section
/-! DEFINITION. The disposal reservation (R161, R162) and the disposal of graded and aborted units (R14, R21, R135). -/

namespace Sys2Proof.Machine

open Sys2Proof

/-- The UNIT_REPORT of a unit, from its Unit Record (R135). -/
def unitReport (n : NestId) (r : UnitRecord) (gone : Bool) : UnitReport where
  nest := n
  serial := r.serial
  prior := r.prior
  plan := r.plan
  graded := r.disposition.isSome
  disposition := r.disposition.map fun d => (d.code, d.name, d.bin, d.template)
  abort := r.abort
  position := if r.disposition.isSome then none else some r.position
  retriesUsed := r.retriesUsed
  gone := gone
  tally := r.tally
  overflow := r.overflow
  findings := r.findings

/-- Holds, or gives back, the non-reply slot of a disposal within its event (R193). -/
def reserveSlot (b : Bool) (s : State) : State := s.setPort { s.port with reserved := b }

/-- Places the UNIT_REPORT in the reserved slot (R14 item 3, R21 item 2, R193). -/
def placeReport (n : NestId) (r : UnitRecord) (s : State) : State :=
  s.setPort ({ s.port with reserved := false }.place (.unitReport (unitReport n r (s.nest n).gone)))

/-- Composes the label of a graded unit and places it in the Label Queue, unless the template is NONE (R14 item 2, R160). -/
def placeLabel (n : NestId) (r : UnitRecord) (d : Disposition) (s : State) : State :=
  if d.template.isSome then
    s.setMarker { s.marker with labels := s.marker.labels ++ [composeLabel n r d s.lot] }
  else s

/-- The nest in DISPOSED with its sorting output (R14 items 4 and 5, R21 items 3 and 4). -/
def Nest.toDisposed (x : Nest) (pass : Bool) : Nest :=
  { x with state := .disposed, stall := none, pass := pass, reject := !pass }

/-- The nest leaves DISPOSING: for DISPOSED with its outputs, or for EMPTY when the unit has gone (R14, R21). -/
def leaveDisposing (n : NestId) (pass : Bool) (s : State) : State :=
  let s' := s.setDisposing (s.disposing.filter fun m => !(m == n))
  if (s.nest n).gone then enterEmpty n s' else s'.modNest n (·.toDisposed pass)

/-- The disposal event of a graded unit, in the order of R14. -/
def disposeGraded (n : NestId) (r : UnitRecord) (d : Disposition) (s : State) : State :=
  leaveDisposing n (decide (d.bin = 0)) (placeReport n r (placeLabel n r d (countGraded n r d (reserveSlot true s))))

/-- The disposal event of an aborted unit, in the order of R21. -/
def disposeAborted (n : NestId) (r : UnitRecord) (s : State) : State :=
  leaveDisposing n false (placeReport n r (countAborted (reserveSlot true s)))

/-- The Unit Record of a nest in DISPOSING that can take its reservation (R161). -/
def reservable (s : State) (n : NestId) : Option UnitRecord :=
  if (s.nest n).state = .disposing then
    (s.nest n).record.filter fun r =>
      decide (r.pending = 0) && nonReplyAvailable s.port && (!needsLabel r || labelAvailable s.marker)
  else none

/-- DISPOSAL (R14): a graded unit takes its reservation and completes its disposal. -/
def disposal (n : NestId) (s : State) : Option State :=
  (reservable s n).bind fun r => r.disposition.map fun d => disposeGraded n r d s

/-- ABORTED_DISPOSAL (R21): an aborted unit takes its Result Queue slot and completes its disposal. -/
def abortedDisposal (n : NestId) (s : State) : Option State :=
  (reservable s n).bind fun r => if r.abort.isSome then some (disposeAborted n r s) else none

/-- The disposal of a nest, graded or aborted. -/
def disposeNest (s : State) (n : NestId) : Option State := (disposal n s).orElse fun _ => abortedDisposal n s

/-- The reservations, tried in the order of entry to DISPOSING (R162). -/
def reserveNext (s : State) : Option State := s.disposing.findSome? (disposeNest s)

end Sys2Proof.Machine
end

