-- ==== Sys2Proof/Machine/MarkerLine.lean ====
section
/-! DEFINITION. The Marker Line Controller (chapter 9): the line form of a byte, the start of a frame and the send completion (R166), the
bytes received (R167), the failures (R168) and MARKER_FAULT (R169). -/

namespace Sys2Proof.Machine

open Sys2Proof

/-! ## The line form of a byte (R166) -/

/-- A byte as it goes on MARKER_TX and MARKER_RX: one start bit, 8 data bits with the least significant first, one stop bit, no parity
(R166). The levels of the start and the stop bit are electrical (log entry 21). -/
def lineForm (b : Byte) : List LineBit :=
  [.start, .data (b.getLsbD 0), .data (b.getLsbD 1), .data (b.getLsbD 2), .data (b.getLsbD 3), .data (b.getLsbD 4),
    .data (b.getLsbD 5), .data (b.getLsbD 6), .data (b.getLsbD 7), .stop]

/-- The byte whose eight data bits came, the least significant first. -/
def byteOfBits (b0 b1 b2 b3 b4 b5 b6 b7 : Bool) : Byte :=
  BitVec.ofNat 8 (b0.toNat + 2 * b1.toNat + 4 * b2.toNat + 8 * b3.toNat + 16 * b4.toNat + 32 * b5.toNat + 64 * b6.toNat + 128 * b7.toNat)

/-- The byte that ten bits of MARKER_RX carry; none where a start bit, eight data bits and a stop bit are not found (R166, R167). -/
def receivedByte : List LineBit → Option Byte
  | [.start, .data b0, .data b1, .data b2, .data b3, .data b4, .data b5, .data b6, .data b7, .stop] =>
    some (byteOfBits b0 b1 b2 b3 b4 b5 b6 b7)
  | _ => none

/-! ## Sending -/

/-- The frame of a label: STX, the text, ETX (R166). -/
def labelFrame (text : Text) : List Byte := 2 :: text ++ [3]

/-- What MARKER_TX carries from the start of a frame to its send completion: the bytes of the frame in their line form (R166); nothing,
the idle level, while no frame is being sent (R165). -/
def markerTx (m : Marker) : List LineBit := if m.send = .sending then m.frame.flatMap lineForm else []

/-- MARKER_FRAME_START (R166): the head label's frame starts. -/
def markerFrameStart (s : State) : Option State :=
  match s.marker.labels with
  | [] => none
  | l :: _ =>
    if decide (s.marker.send = .idle) && s.inputs.markerReady.debounced && decide (s.run.mode ≠ .stopped) && !s.marker.hold then
      some (s.setMarker { s.marker with send := .sending, baud := s.tables.config.baud, frame := labelFrame l.text })
    else none

/-- SEND_COMPLETION (R166): AWAITING, with the reply timer from 0 and the reply timeout read now (R164). -/
def sendCompletion (s : State) : Option State :=
  if s.marker.send = .sending then
    some (s.setMarker { s.marker with
      send := .awaiting, replyTimer := some .start, replyLimit := s.tables.config.replyTimeout })
  else none

/-! ## Replies -/

/-- The byte ACK (R167). -/
def ackByte : Byte := 6

/-- The byte NAK (R167). -/
def nakByte : Byte := 21

/-- An ACK in AWAITING (R167): the head leaves the Label Queue. -/
def takeAck (s : State) : Option State :=
  if s.marker.send = .awaiting then
    some (s.setMarker { s.marker with labels := s.marker.labels.tail, send := .idle, retry := 0, replyTimer := none })
  else none

/-- The controller back in IDLE after a failure, with this retry count (R168, R169). -/
def Marker.failed (m : Marker) (retry : Nat) : Marker := { m with send := .idle, replyTimer := none, retry := retry }

/-- The discard of the head under MARKER_FAULT with CONTINUE, with its LABEL_DISCARDED event (R169, R170). -/
def discardLabel (failure : MarkerFailure) (s : State) : State :=
  match s.marker.labels with
  | [] => s
  | l :: rest =>
    handOver (.labelDiscarded l.serial l.nest l.truncated failure rest.length) (s.setMarker { s.marker with labels := rest })

/-- The controller's own effect of a MARKER_FAULT (R169). -/
def markerFaultEffect (failure : MarkerFailure) (action : Action) (s : State) : State :=
  match action with
  | .continue_ => discardLabel failure s
  | .stop => s.setMarker { s.marker with hold := true }

/-- The second failure of the head raises MARKER_FAULT (R169). -/
def raiseMarkerFault (failure : MarkerFailure) (s : State) : State :=
  let head := s.marker.labels.head?
  let a := actionOf s.tables.config.actionMarker
  applyStop .markerFault a (markerFaultEffect failure a
    (recordFault .markerFault (.marker failure) (head.map (·.nest)) (head.map (·.serial)) none none a
      (s.setMarker (s.marker.failed 0))))

/-- A failure of the head (R168). -/
def markerFailure (failure : MarkerFailure) (s : State) : State :=
  if s.marker.retry = 0 then s.setMarker (s.marker.failed 1) else raiseMarkerFault failure s

/-- A NAK in AWAITING (R167, R168). -/
def takeNak (s : State) : Option State :=
  if s.marker.send = .awaiting then some (markerFailure .nak s) else none

/-- Ten bits of MARKER_RX at the end of their stop bit (R167): ACK and NAK are taken in AWAITING; any other byte, and one whose stop bit is
not found, is ignored, as every byte is in IDLE and SENDING (R166). -/
def receiveLine (bits : List LineBit) (s : State) : Option State :=
  match receivedByte bits with
  | some b => if b = ackByte then takeAck s else if b = nakByte then takeNak s else none
  | none => none

/-- REPLY_TIMEOUT (R167): the reply timer passes the reply timeout. -/
def replyTimeout (s : State) : Option State :=
  if decide (s.marker.send = .awaiting) && timerDue (ms (10 * s.marker.replyLimit)) s.marker.replyTimer then
    some (markerFailure .timeout s)
  else none

end Sys2Proof.Machine
end

