-- ==== Sys2Proof/Machine/Validation.lean ====
section
/-! DEFINITION. Validation (R173, R174): every check of the detail code table, as the list of failures in the order of checking; the first
one is reported. The conditions are those of R27, R29, R46, R83, R102, R103, R113, R132, R148, R159, R164, R179. -/

namespace Sys2Proof.Machine

open Sys2Proof

/-- A failure: detail code and index (R174). -/
structure Failure where
  detail : Nat
  index : Nat
  deriving DecidableEq, Repr

/-- The failure of a check at an index, if the check fails. -/
def failIf (bad : Bool) (detail index : Nat) : List Failure := if bad then [⟨detail, index⟩] else []

/-- Whether a number lies outside a range, ends included. -/
def outside (lo hi v : Int) : Bool := decide (v < lo) || decide (hi < v)

/-- A text of at most `n` printable characters. -/
def isName (n : Nat) (t : Text) : Bool := decide (t.length ≤ n) && t.all printable

/-- The entries of a table with their indices. -/
def indexed {α : Type} (l : List α) : List (Nat × α) := (List.range l.length).zip l

/-- The defined entries of a table with their indices. -/
def defined {α : Type} (l : List (Option α)) : List (Nat × α) := (indexed l).filterMap fun e => e.2.map fun x => (e.1, x)

/-! ## Plans (R29) -/

/-- The spans of a plan: first and last entry position of each (section 2.3). -/
def spans (entries : List PlanEntry) : List (Nat × Nat) :=
  (indexed entries).filterMap fun e =>
    match e.2 with
    | .again back _ => some (e.1 - back, e.1)
    | .segment _ => none

/-- Two spans overlap without one lying inside the other. -/
def crossing (a b : Nat × Nat) : Bool :=
  decide (a.1 ≤ b.2) && decide (b.1 ≤ a.2) && !(decide (a.1 ≤ b.1) && decide (b.2 ≤ a.2))
    && !(decide (b.1 ≤ a.1) && decide (a.2 ≤ b.2))

/-- The number of spans that an entry position lies in. -/
def depthAt (sp : List (Nat × Nat)) (e : Nat) : Nat := (sp.filter fun x => decide (x.1 ≤ e) && decide (e ≤ x.2)).length

/-- Whether a plan is the default plan of a nest whose autostart is on (R29). -/
def isAutostartPlan (c : Configuration) (i : Nat) : Bool := nestIds.any fun n => c.autostart[n] && decide (c.defaultPlan[n] = i)

/-- The failures of a plan (101 to 107). -/
def planFailures (t : Tables) (i : Nat) (p : Plan) : List Failure :=
  let e := indexed p.entries
  let sp := spans p.entries
  failIf (e.any fun x => match x.2 with
      | .segment k => ((t.segments[k]?).join).isNone
      | .again _ _ => false) 101 i
    ++ failIf (e.any fun x => match x.2 with
      | .again back _ => decide (back < 1) || decide (x.1 < back)
      | .segment _ => false) 102 i
    ++ failIf (e.any fun x => match x.2 with
      | .again _ count => decide (count < 1) || decide (255 < count)
      | .segment _ => false) 103 i
    ++ failIf (sp.any fun a => sp.any fun b => crossing a b) 104 i
    ++ failIf (e.any fun x => decide (2 < depthAt sp x.1)) 105 i
    ++ failIf (p.entries.isEmpty && isAutostartPlan t.config i) 106 i
    ++ failIf (decide (7 < p.budget) || !isName 8 p.name) 107 i

/-! ## Segments (R27) and masks (R113) -/

/-- The failures of a segment's own fields (201 to 212). -/
def segmentFailures (i : Nat) (g : Segment) : List Failure :=
  failIf (outside 0 480 g.startCode) 201 i
    ++ failIf (outside 1 64 g.stepCount) 202 i
    ++ failIf (outside (-48) 48 g.stepSize) 203 i
    ++ failIf (outside (-600) 0 g.level) 204 i
    ++ failIf (decide (960 < g.rampFrames)) 205 i
    ++ failIf (decide (60000 < g.settleFrames)) 206 i
    ++ failIf (outside 96 60000 g.measureFrames) 207 i
    ++ failIf (outside 6 20 g.hlo || decide (40 < g.hhi)) 208 i
    ++ failIf (decide (g.hhi < g.hlo)) 209 i
    ++ failIf (allFigures.any fun f => (judgedMask g.judge f).any fun m => decide (15 < m)) 210 i
    ++ failIf (outside 0 480 (g.startCode + ((g.stepCount : Int) - 1) * g.stepSize)) 211 i
    ++ failIf (decide (g.settleFrames < g.rampFrames)) 212 i

/-- A judged figure names an undefined mask (301). -/
def masksMissing (t : Tables) (j : JudgeSet) : Bool :=
  allFigures.any fun f => (judgedMask j f).any fun m => ((t.masks[m]?).join).isNone

/-- A judged figure names a defined mask of another figure kind (302). -/
def masksOfOtherKind (t : Tables) (j : JudgeSet) : Bool :=
  allFigures.any fun f => (judgedMask j f).any fun m => ((t.masks[m]?).join).any fun k => decide (k.kind ≠ f)

/-- The failures of a segment's mask references (301, 302): the segment is the entry, so every reference is checked for 301 before any is
checked for 302 (DEDUCED from R174, log entry 38). -/
def maskReferenceFailures (t : Tables) (i : Nat) (g : Segment) : List Failure :=
  failIf (masksMissing t g.judge) 301 i ++ failIf (masksOfOtherKind t g.judge) 302 i

/-- The codes of a list of breakpoints are strictly ascending (R113). -/
def ascending : List Breakpoint → Bool
  | a :: b :: rest => decide (a.code < b.code) && ascending (b :: rest)
  | _ => true

/-- Whether a limit lies outside the range of its mask's kind (R113). -/
def limitOutside (k : Figure) (l : Option Int) : Bool :=
  l.any fun v => if k = .impedance then outside 0 65535 v else outside (-1500) 600 v

/-- A breakpoint whose lower limit is above its upper limit (R113). -/
def limitsCrossed (b : Breakpoint) : Bool :=
  match b.lower, b.upper with
  | some l, some u => decide (u < l)
  | _, _ => false

/-- The failures of a mask (303 to 306). -/
def maskFailures (i : Nat) (m : Mask) : List Failure :=
  failIf (decide (m.points.length < 2)) 303 i
    ++ failIf ((m.points.any fun b => outside 0 480 b.code) || !ascending m.points) 304 i
    ++ failIf (m.points.any fun b => limitOutside m.kind b.upper || limitOutside m.kind b.lower) 305 i
    ++ failIf (m.points.any limitsCrossed) 306 i

/-! ## Grades (R132) and templates (R159) -/

/-- A condition of unknown kind (404). -/
def Condition.isUnknown : Condition → Bool
  | .unknown _ => true
  | _ => false

/-- A condition with an empty set (405). -/
def Condition.hasEmptySet : Condition → Bool
  | .findings kinds outcomes _ _ => kinds.isEmpty || outcomes.isEmpty
  | .nest nests => nests.isEmpty
  | _ => false

/-- A FINDINGS condition with n above 255 (406). -/
def Condition.numberTooLarge : Condition → Bool
  | .findings _ _ _ k => decide (255 < k)
  | _ => false

/-- The failures of a rule (402 to 406); `last` is the index of the defined rule of highest index. -/
def gradeFailures (last i : Nat) (g : GradeRule) : List Failure :=
  failIf (decide (i = last) && !g.conditions.isEmpty) 402 i
    ++ failIf (decide (15 < g.code) || decide (7 < g.bin) || !isName 8 g.name) 403 i
    ++ failIf (g.conditions.any Condition.isUnknown) 404 i
    ++ failIf (g.conditions.any Condition.hasEmptySet) 405 i
    ++ failIf (g.conditions.any Condition.numberTooLarge) 406 i

/-- The failures of the GRADE table (401 to 406). -/
def gradeTableFailures (t : Tables) : List Failure :=
  let rules := defined t.grades.toList
  failIf rules.isEmpty 401 0
    ++ rules.flatMap fun e => gradeFailures ((rules.getLast?.map (·.1)).getD 0) e.1 e.2

/-- The failure of a rule whose template is not defined (501). -/
def templateReferenceFailures (t : Tables) (i : Nat) (g : GradeRule) : List Failure :=
  failIf (g.template.any fun k => ((t.templates[k]?).join).isNone) 501 i

/-- A LITERAL with a character that is not printable (503). -/
def literalUnprintable : LabelField → Bool
  | .literal t => !t.all printable
  | _ => false

/-- The failures of a template (502, 503). -/
def templateFailures (i : Nat) (fs : List LabelField) : List Failure :=
  failIf fs.isEmpty 502 i ++ failIf (fs.any literalUnprintable) 503 i

/-! ## Calibration (R102) and configuration -/

/-- The failures of a CALIBRATION entry (601 to 603). -/
def calibrationFailures (i : Nat) (c : Option Calibration) : List Failure :=
  match c with
  | none => [⟨601, i⟩]
  | some c => failIf (outside (-200) 200 c.micOffset) 602 i ++ failIf (decide (c.scale = 0)) 603 i

/-- A role that is none of SOLO, FIRST and MEMBER. -/
def roleUnknown : RoleSetting → Bool
  | .unknown _ => true
  | _ => false

/-- A class action that is neither STOP nor CONTINUE (620). -/
def actionUnknown : ActionSetting → Bool
  | .unknown _ => true
  | _ => false

/-- A step-report setting that is unknown (615). -/
def reportUnknown : ReportSetting → Bool
  | .unknown _ => true
  | _ => false

/-- The five marker baud rates (R164). -/
def baudRates : List Nat := [9600, 19200, 38400, 57600, 115200]

/-- The failures that name a nest, in ascending nest order. -/
def nestFailures (bad : NestId → Bool) (detail : Nat) : List Failure := nestIds.flatMap fun n => failIf (bad n) detail n

/-- The failures of the CONFIGURATION settings (611 to 620). Under 615 a floor out of range is found, at index 0, before a nest's setting
(DESIGN CHOICE, log entry 35). -/
def configurationFailures (c : Configuration) : List Failure :=
  failIf (outside 1 255 c.debounce) 611 0
    ++ failIf (roleUnknown c.role || outside (-600) 0 c.quietCeiling || outside 1 1000 c.holdLimit || outside 10 10000 c.waitLimit) 612 0
    ++ failIf ((decide (c.role = .first) || decide (c.role = .member)) && decide (c.waitLimit ≤ c.holdLimit)) 613 0
    ++ failIf (decide (3 < c.guardExponent) || outside 1 4 c.guardDebounce || outside (-1500) 0 c.normalThreshold
        || outside (-1500) 0 c.quietThreshold) 614 0
    ++ failIf (outside (-1200) (-400) c.silenceFloor || outside (-1200) (-400) c.currentFloor) 615 0
    ++ nestFailures (fun n => reportUnknown c.stepReport[n]) 615
    ++ nestFailures (fun n => decide (7 < c.defaultPlan[n])) 616
    ++ failIf (outside 16 64 c.yieldWindow || decide (64 < c.yieldThreshold) || decide (c.yieldWindow < c.yieldThreshold)
        || decide (15 < c.failLimit)) 617 0
    ++ failIf (!baudRates.contains c.baud || outside 1 255 c.replyTimeout) 618 0
    ++ failIf (outside 1 60 c.stallLimit) 619 0
    ++ failIf (actionUnknown c.actionTimeout || actionUnknown c.actionDuplicate || actionUnknown c.actionMarker
        || actionUnknown c.actionStall) 620 0

/-! ## The whole validation -/

/-- Every failure of the tables, in the order of checking (R174). -/
def failures (t : Tables) : List Failure :=
  (indexed t.plans.toList).flatMap (fun e => planFailures t e.1 e.2)
    ++ (defined t.segments.toList).flatMap (fun e => segmentFailures e.1 e.2)
    ++ (defined t.segments.toList).flatMap (fun e => maskReferenceFailures t e.1 e.2)
    ++ (defined t.masks.toList).flatMap (fun e => maskFailures e.1 e.2)
    ++ gradeTableFailures t
    ++ (defined t.grades.toList).flatMap (fun e => templateReferenceFailures t e.1 e.2)
    ++ (defined t.templates.toList).flatMap (fun e => templateFailures e.1 e.2)
    ++ (indexed t.calibration.toList).flatMap (fun e => calibrationFailures e.1 e.2)
    ++ configurationFailures t.config

/-- The first failure found, absent when validation finds none (R173, R174). -/
def validate (t : Tables) : Option Failure := (failures t).head?

end Sys2Proof.Machine
end

