-- ==== Sys2Proof/Machine/Commands.lean ====
section
/-! DEFINITION. The handling of every station command by its owning block (chapters 1, 8, 10, 11): the checks in their order, the effect and
the reply (R8, R18, R23, R146, R154, R155, R172, R173, R182 to R184, R194, R195, R198, R199, R201). -/

namespace Sys2Proof.Machine

open Sys2Proof

/-- The answer of a handled command: its reply code and data, absent for a START_RUN that begins validation (R173). -/
abbrev Answer := Option (ReplyCode × ReplyData)

/-- A refusal changes no state. -/
def refuse (c : ReplyCode) (s : State) : State × Answer := (s, some (c, .none))

/-- An answer OK without data. -/
def accept (s : State) : State × Answer := (s, some (.ok, .none))

/-- The nest that a field names, 0 to 3. -/
def nestOf (k : Nat) : Option NestId := if h : k < 4 then some ⟨k, h⟩ else none

/-- Clears the validation mark (R175). -/
def clearMark (s : State) : State := s.setRun { s.run with mark := false }

/-! ## WRITE_TABLE (R195) -/

/-- The fields of a template write, absent where one is of unknown kind or is a LITERAL of more than 8 characters (R157). -/
def templateOf : List LabelFieldArg → Option (List LabelField)
  | [] => some []
  | .unknown _ :: _ => none
  | .known (.literal t) :: rest => if t.length ≤ 8 then (templateOf rest).map (.literal t :: ·) else none
  | .known f :: rest => (templateOf rest).map (f :: ·)

/-- The storage ranges of a CALIBRATION record (R102). -/
def calibrationFits (c : Calibration) : Bool :=
  decide (-32768 ≤ c.micOffset) && decide (c.micOffset ≤ 32767) && decide (c.scale ≤ 65535)

/-- The tables after a write to a table other than TAP, absent where the index or the record's shape does not meet the table's write
conditions (R26, R28, R102, R112, R130, R157, R195; log entry 17). -/
def storeEntry (t : Tables) : TableWrite → Option Tables
  | .segment i r => if h : i < 128 then some { t with segments := t.segments.set i r } else none
  | .plan i (some p) =>
    if h : i < 8 then if p.entries.length ≤ 32 then some { t with plans := t.plans.set i p } else none else none
  | .plan _ none => none
  | .mask i r =>
    if h : i < 16 then
      if r.all fun m => decide (m.points.length ≤ 32) then some { t with masks := t.masks.set i r } else none
    else none
  | .grade i r =>
    if h : i < 16 then
      if r.all fun g => decide (g.conditions.length ≤ 3) then some { t with grades := t.grades.set i r } else none
    else none
  | .labelTemplate i none => if h : i < 8 then some { t with templates := t.templates.set i none } else none
  | .labelTemplate i (some fs) =>
    if h : i < 8 then
      if fs.length ≤ 12 then (templateOf fs).map fun fs => { t with templates := t.templates.set i (some fs) } else none
    else none
  | .calibration i r =>
    if h : i < 4 then if r.all calibrationFits then some { t with calibration := t.calibration.set i r } else none else none
  | .configuration i (some c) => if i = 0 then some { t with config := c } else none
  | .configuration _ none => none
  | .tap _ _ => none
  | .unknown _ => none

/-- The Tap Table after a write, absent where the index or the source is outside the lists of R195 and R200. -/
def storeTap (t : Tables) (i : Nat) (r : Option TapArg) : Option Tables :=
  if h : i < 8 then
    match r with
    | none => some { t with taps := t.taps.set i .none }
    | some (.known x) => some { t with taps := t.taps.set i x }
    | some (.unknown _) => none
  else none

/-- The holds that have lasted the debounce time complete, with their edges (R2). -/
def completeHolds (s : State) : State := allInputs.foldl (fun s i => attempt (debouncedEdge i) s) s

/-- Whether a write is one of the CONFIGURATION table. -/
def isConfiguration : TableWrite → Bool
  | .configuration _ _ => true
  | _ => false

/-- A write to a table other than TAP, once its table is known: access level, mode, validation, shape (R195). -/
def writeLocked (w : TableWrite) (s : State) : State × Answer :=
  if !isEngineer s then refuse .notPermitted s
  else if s.run.mode ≠ .standby then refuse .wrongMode s
  else if s.run.validation.isSome then refuse .busy s
  else
    match storeEntry s.tables w with
    | none => refuse .badArgument s
    | some t =>
      let s' := clearMark (s.setTables t)
      accept (if isConfiguration w then completeHolds s' else s')

/-- WRITE_TABLE (R195). -/
def handleWriteTable (w : TableWrite) (s : State) : State × Answer :=
  match w with
  | .unknown _ => refuse .badArgument s
  | .tap i r =>
    match storeTap s.tables i r with
    | none => refuse .badArgument s
    | some t => accept (s.setTables t)
  | w => writeLocked w s

/-! ## READ_TABLE (R195) -/

/-- The entry of a table at an index, absent for an unknown table or an index outside it (R195). -/
def readEntry (t : Tables) (id : TableId) (i : Nat) : Option TableEntry :=
  match id with
  | .segment => t.segments[i]?.map .segment
  | .plan => t.plans[i]?.map .plan
  | .mask => t.masks[i]?.map .mask
  | .grade => t.grades[i]?.map .grade
  | .labelTemplate => t.templates[i]?.map .labelTemplate
  | .calibration => t.calibration[i]?.map .calibration
  | .configuration => if i = 0 then some (.configuration t.config) else none
  | .tap => t.taps[i]?.map .tap
  | .unknown _ => none

/-- READ_TABLE (R195). -/
def handleReadTable (id : TableId) (i : Nat) (s : State) : State × Answer :=
  match readEntry s.tables id i with
  | none => refuse .badArgument s
  | some e => (s, some (.ok, .entry e))

/-! ## The run commands (R172) -/

/-- START_RUN (R172, R173). -/
def handleStartRun (tag : Byte) (s : State) : State × Answer :=
  if s.run.mode ≠ .standby then refuse .wrongMode s
  else if s.run.validation.isSome then refuse .busy s
  else if !s.conv.inSync then refuse .conditionPresent s
  else if s.run.mark then accept (enterRun s)
  else (s.setRun { s.run with validation := some ⟨tag, 0⟩ }, none)

/-- STOP_RUN (R172, R178). -/
def handleStopRun (s : State) : State × Answer :=
  if s.run.mode.running then accept (leaveRunning .standby .stopRun s) else refuse .wrongMode s

/-- HOLD SMART (R172, R176). -/
def handleHoldSmart (s : State) : State × Answer :=
  if s.run.mode = .run then accept (changeMode .holding .holdSmart s) else refuse .wrongMode s

/-- HOLD FORCE (R172, R177). -/
def handleHoldForce (s : State) : State × Answer :=
  if s.run.mode = .run ∨ s.run.mode = .holding then accept (changeMode .held .holdForce (abortAll .holdForced s))
  else refuse .wrongMode s

/-- RESUME (R172, R177). -/
def handleResume (s : State) : State × Answer :=
  if s.run.mode = .holding ∨ s.run.mode = .held then accept (changeMode .run .resume s) else refuse .wrongMode s

/-! ## Lots and units -/

/-- NEW_LOT (R146, R147). -/
def handleNewLot (lotId serialPrefix serial : Text) (s : State) : State × Answer :=
  match parseSerial serial with
  | none => refuse .badArgument s
  | some v =>
    if lotId.isEmpty || !isName 6 lotId || !isName 6 serialPrefix then refuse .badArgument s
    else if nestIds.any fun n => (s.nest n).state.inFlight then refuse .busy s
    else accept (openLot lotId serialPrefix v s)

/-- The prior serial that a START_UNIT carries: absent, or eight decimal digits; the outer option is absent where it is malformed (R8). -/
def priorOf : Option Text → Option (Option Nat)
  | none => some none
  | some t => (parseSerial t).map some

/-- The refusals of START_UNIT after its arguments, in order (R8, checks 2 to 6). -/
def startRefusal (s : State) (n : NestId) (prior : Option Nat) : Option ReplyCode :=
  if s.run.mode ≠ .run then some .wrongMode
  else if !(decide ((s.nest n).state = .loaded) || decide ((s.nest n).state = .disposed) && presentAndClamped s n) then
    some .nestNotReady
  else if s.lot.alerts[n] then some .nestAlert
  else if !s.lot.isOpen then some .noLot
  else if s.lot.exhausted && prior.isNone then some .serialExhausted
  else none

/-- START_UNIT (R8, R9, R11). -/
def handleStartUnit (nest plan : Nat) (prior : Option Text) (s : State) : State × Answer :=
  match nestOf nest, priorOf prior with
  | some n, some p =>
    if decide (7 < plan) || (planAt s.tables plan).entries.isEmpty then refuse .badArgument s
    else
      match startRefusal s n p with
      | some c => refuse c s
      | none => (startUnit n plan p s, some (.ok, .started (p.getD s.lot.nextSerial) p.isSome))
  | _, _ => refuse .badArgument s

/-- ABORT_UNIT (R18). -/
def handleAbortUnit (nest : Nat) (s : State) : State × Answer :=
  match nestOf nest with
  | none => refuse .badArgument s
  | some n =>
    if (s.nest n).state.underTest then accept (abortUnit n .commanded s) else refuse .nestNotReady s

/-- CLEAR_NEST_ALERT (R154). -/
def handleClearNestAlert (nest : Nat) (s : State) : State × Answer :=
  match nestOf nest with
  | none => refuse .badArgument s
  | some n => accept (s.setLot { s.lot with fails := s.lot.fails.set n 0, alerts := s.lot.alerts.set n false })

/-! ## Faults and reset (R183, R184) -/

/-- The fault state and the marker hold cleared (R183). -/
def clearFaults (s : State) : State :=
  (s.setRun { s.run with latched := Vector.replicate 5 false, first := none }).setMarker { s.marker with hold := false }

/-- CLEAR_FAULT (R183). -/
def handleClearFault (s : State) : State × Answer :=
  if !s.conv.inSync then refuse .conditionPresent s
  else
    let s' := clearFaults s
    accept (if s.run.mode = .stopped then changeMode .standby .clearFault s' else s')

/-- The inputs at a RESET_PART: each debounced state set to its level, each hold abandoned (R2). -/
def Inputs.relatch (i : Inputs) : Inputs where
  present := i.present.map fun x => .settled x.level
  clamp := i.clamp.map fun x => .settled x.level
  engEnable := .settled i.engEnable.level
  alertClr := .settled i.alertClr.level
  markerReady := .settled i.markerReady.level

/-- The Lot Counters at a RESET_PART: the Lot Record kept (R139, R148, R151, R154). -/
def LotCounters.resetPart (l : LotCounters) : LotCounters :=
  { l.emptyWindow with settings := .atReset, fails := Vector.replicate 4 0, alerts := Vector.replicate 4 false }

/-- The Run Controller at a RESET_PART: the Fault History and the fault count kept (R171, R181). -/
def RunControl.resetPart (r : RunControl) : RunControl := { RunControl.powerOn with history := r.history, count := r.count }

/-- The Station Port at a RESET_PART: a message in sending is sent to its end (R192). The upstream frame is an output already sent. -/
def Port.resetPart (p : Port) : Port := { Port.powerOn with sending := p.sending, upstream := p.upstream }

/-- The Converter Port at a RESET_PART: the sync state kept (R188), the frame number 0 (R71), the drive slots 0 (R37). -/
def Converter.resetPart (c : Converter) : Converter := { Converter.powerOn with inSync := c.inSync }

/-- An accepted RESET_PART: the state of the release of RESET_N, with the exceptions of R184. -/
def resetPart (s : State) : State where
  inputs := s.inputs.relatch
  nests := nestsAtReset s.inputs.relatch
  disposing := []
  arbiter := .atReset
  permit := .atReset
  bank := .atReset
  store := .atReset
  guard := .start
  lot := s.lot.resetPart
  marker := .atReset
  run := s.run.resetPart
  port := s.port.resetPart
  conv := s.conv.resetPart
  tables := s.tables
  pending := s.pending

/-- RESET_PART (R184). -/
def handleResetPart (s : State) : State × Answer :=
  if isEngineer s then accept (resetPart s) else refuse .notPermitted s

/-! ## Notices and alerts (R198, R199) -/

/-- The kinds that a command names, absent where one is unknown (R198, R199). -/
def knownKinds : List NoticeArg → Option (List NoticeKind)
  | [] => some []
  | .known k :: rest => (knownKinds rest).map (k :: ·)
  | .unknown _ :: _ => none

/-- A set of notice kinds with the named ones added, or removed. -/
def putKinds (b : Bool) (ks : List NoticeKind) (x : NoticeSet) : NoticeSet :=
  ks.foldl (fun x k => x.set (noticeIndex k) b) x

/-- A command on a set of notice kinds: an unknown kind refuses it and changes nothing (R198, R199). -/
def handleKinds (kinds : List NoticeArg) (update : List NoticeKind → Port → Port) (s : State) : State × Answer :=
  match knownKinds kinds with
  | none => refuse .badArgument s
  | some ks => accept (s.setPort (update ks s.port))

/-- SET_NOTICES (R198). -/
def handleSetNotices (kinds : List NoticeArg) : State → State × Answer :=
  handleKinds kinds fun ks p => { p with noticeEnable := putKinds true ks p.noticeEnable }

/-- CLEAR_NOTICES (R198). -/
def handleClearNotices (kinds : List NoticeArg) : State → State × Answer :=
  handleKinds kinds fun ks p => { p with noticeEnable := putKinds false ks p.noticeEnable }

/-- SET_ALERTS (R199). -/
def handleSetAlerts (kinds : List NoticeArg) : State → State × Answer :=
  handleKinds kinds fun ks p => { p with alertEnable := putKinds true ks p.alertEnable }

/-- CLEAR_ALERTS (R199). -/
def handleClearAlerts (kinds : List NoticeArg) : State → State × Answer :=
  handleKinds kinds fun ks p => { p with alertEnable := putKinds false ks p.alertEnable }

/-- ACK_ALERTS (R199). -/
def handleAckAlerts (kinds : List NoticeArg) : State → State × Answer :=
  handleKinds kinds fun ks p => { p with alertPending := putKinds false ks p.alertPending }

/-! ## The reading commands -/

/-- The four following flags (R182). -/
def followingFlags (s : State) : FollowingFlags :=
  ⟨s.conv.inSync, s.inputs.markerReady.debounced, s.permit.held, s.lot.yieldLow⟩

/-- The READ_STATUS reply (R201, R62, R82, R96, R170, R182). Three of its fields are the model's choice (DESIGN CHOICE): the watch entries
and their ambient marks are two counts (log entry 30), a nest waits for its disposal reservation once it is eligible (log entry 32), and
the validation state says in flight or idle, without the tag (log entry 34). -/
def statusReply (s : State) : StatusReply where
  mode := s.run.mode
  mark := s.run.mark
  validating := s.run.validation.isSome
  latched := s.run.latched
  following := followingFlags s
  inSync := s.conv.inSync
  engineer := isEngineer s
  holdOff := s.port.holdOff
  bufferCount := s.port.buffer.length
  resultCount := s.port.results.length
  nonReplyCount := (s.port.results.filter fun m => !m.isReply).length
  waitingReply := s.port.waiting.isSome
  unreported := s.port.unreported
  badFrames := s.port.badFrames
  badMessages := s.port.badMessages
  discarded := s.port.discarded
  dropped := s.port.dropped
  noticeEnable := s.port.noticeEnable
  alertEnable := s.port.alertEnable
  alertPending := s.port.alertPending
  alertLevel := alertHigh s.port
  role := s.tables.config.role
  permitHeld := s.permit.held
  quietQueue := s.arbiter.queue
  quietHolder := s.arbiter.holder
  gateOpen := gateOpen s
  holdTimerRuns := s.permit.holdTimer.isSome
  waitTimerRuns := s.permit.waitTimer.isSome
  freePairs := s.bank.free
  allocQueue := s.bank.queue
  closeWait := s.store.closeWait
  freeRecords := s.store.free
  inGuardHold := s.store.guardHold.length
  inJudgeQueue := s.store.judgeQueue.length
  inComputation := if s.store.computing.isSome then 1 else 0
  frameNumber := s.conv.frameNumber
  guardExponent := s.tables.config.guardExponent
  guardDebounce := s.tables.config.guardDebounce
  lastBlock := s.guard.last
  normal := s.guard.normal
  quiet := s.guard.quiet
  watchEntries := s.guard.watch.length
  watchMarks := (s.guard.watch.filter (·.mark)).length
  labelCount := s.marker.labels.length
  headLabel := s.marker.labels.head?.map fun l => (l.serial, l.nest)
  sendState := s.marker.send
  retryCount := s.marker.retry
  markerHold := s.marker.hold
  waiting := s.disposing.filterMap fun n =>
    (s.nest n).record.bind fun r => if r.pending = 0 then some ⟨n, needsLabel r⟩ else none

/-- READ_STATUS (R201). -/
def handleReadStatus (s : State) : State × Answer := (s, some (.ok, .status (statusReply s)))

/-- The unit group of the READ_NEST reply (R23). The disposition is given without the copy of the template's fields (DESIGN CHOICE, log
entry 36). -/
def unitSummary (r : UnitRecord) : UnitSummary where
  serial := r.serial
  prior := r.prior
  plan := r.plan
  position := r.position
  retriesUsed := r.retriesUsed
  pending := r.pending
  retryCount := r.retryList.length
  stored := r.findings.length
  overflow := r.overflow
  tally := r.tally
  disposition := r.disposition.map fun d => (d.code, d.name, d.bin, d.template)
  abort := r.abort

/-- The READ_NEST reply (R23). -/
def nestReply (s : State) (n : NestId) : NestReply where
  state := (s.nest n).state
  phase := (s.nest n).phase
  present := isPresent s n
  clamped := isClamped s n
  pass := (s.nest n).pass
  reject := (s.nest n).reject
  gone := (s.nest n).gone && decide ((s.nest n).state = .disposing)
  alert := s.lot.alerts[n]
  fails := s.lot.fails[n]
  unit := (s.nest n).record.map unitSummary

/-- READ_NEST (R23). -/
def handleReadNest (nest : Nat) (s : State) : State × Answer :=
  match nestOf nest with
  | none => refuse .badArgument s
  | some n => (s, some (.ok, .nest (nestReply s n)))

/-- The READ_LOT reply (R155). -/
def lotReply (l : LotCounters) : LotReply where
  isOpen := l.isOpen
  lotId := l.lotId
  serialPrefix := l.serialPrefix
  nextSerial := l.nextSerial
  exhausted := l.exhausted
  counts := l.counts
  settings := l.settings
  held := l.outcomes.length
  passCount := l.passCount
  yieldLow := l.yieldLow
  outcomes := l.outcomes
  fails := l.fails
  alerts := l.alerts

/-- READ_LOT (R155). -/
def handleReadLot (s : State) : State × Answer := (s, some (.ok, .lot (lotReply s.lot)))

/-- The READ_FAULTS reply (R182). -/
def faultsReply (s : State) : FaultsReply where
  latched := s.run.latched
  following := followingFlags s
  first := s.run.first
  count := s.run.count
  history := s.run.history

/-- READ_FAULTS (R182). -/
def handleReadFaults (s : State) : State × Answer := (s, some (.ok, .faults (faultsReply s)))

/-! ## Taking a command (R194) -/

/-- The owning block's handling of a command (R194, R195). -/
def handleCommand (tag : Byte) (c : Command) (s : State) : State × Answer :=
  match c with
  | .writeTable w => handleWriteTable w s
  | .readTable t i => handleReadTable t i s
  | .startRun => handleStartRun tag s
  | .stopRun => handleStopRun s
  | .holdSmart => handleHoldSmart s
  | .holdForce => handleHoldForce s
  | .resume => handleResume s
  | .newLot i p v => handleNewLot i p v s
  | .startUnit n p v => handleStartUnit n p v s
  | .abortUnit n => handleAbortUnit n s
  | .clearNestAlert n => handleClearNestAlert n s
  | .clearFault => handleClearFault s
  | .resetPart => handleResetPart s
  | .setNotices ks => handleSetNotices ks s
  | .clearNotices ks => handleClearNotices ks s
  | .setAlerts ks => handleSetAlerts ks s
  | .clearAlerts ks => handleClearAlerts ks s
  | .ackAlerts ks => handleAckAlerts ks s
  | .readStatus => handleReadStatus s
  | .readNest n => handleReadNest n s
  | .readLot => handleReadLot s
  | .readFaults => handleReadFaults s

/-- The handling of what a message asks: its type and payload are checked first (R194). -/
def handleRequest (tag : Byte) (q : Request) (s : State) : State × Answer :=
  match q with
  | .unknown => refuse .unknownCommand s
  | .malformed => refuse .badArgument s
  | .command c => handleCommand tag c s

/-- Places the reply of a handled command, with the command's tag echoed (R194). -/
def reply (tag : Byte) (a : State × Answer) : State :=
  match a.2 with
  | some (code, data) => a.1.setPort (a.1.port.answer ⟨tag, code, data⟩)
  | none => a.1

/-- A command is taken: handled at once, and answered in the same event (R194). -/
def takeCommand (b : Buffered) (s : State) : State := reply b.tag (handleRequest b.tag b.request s)

/-- The Station Port can take a command: no reply is waiting, and a reply slot is available (R194). -/
def canTake (p : Port) : Bool := p.waiting.isNone && replyAvailable p

/-- The service of the head command of the Command Buffer (R194). -/
def serve (s : State) : Option State :=
  match s.port.buffer with
  | [] => none
  | b :: rest => if canTake s.port then some (takeCommand b (s.setPort { s.port with buffer := rest })) else none

/-- A message arrives at the Command Buffer: taken in the same event when it can be, and otherwise buffered, or discarded and counted
when the buffer already holds 4 (R191, R194). -/
def arrive (b : Buffered) (s : State) : State :=
  if s.port.buffer.isEmpty && canTake s.port then takeCommand b s
  else if s.port.buffer.length < Config.bufferPlaces then s.setPort { s.port with buffer := s.port.buffer ++ [b] }
  else s.setPort { s.port with discarded := satInc s.port.discarded }

/-- WAITING_REPLY (R194): the waiting reply is placed when a reply slot is available. -/
def waitingReply (s : State) : Option State :=
  match s.port.waiting with
  | some r => if replyAvailable s.port then some (s.setPort ({ s.port with waiting := none }.place (.reply r))) else none
  | none => none

/-- REPORTS_DROPPED (R197): the unreported drops are reported once a non-reply slot is available. -/
def reportsDropped (s : State) : Option State :=
  if decide (0 < s.port.unreported) && nonReplyAvailable s.port then
    some (handOver (.reportsDropped s.port.unreported) (s.setPort { s.port with unreported := 0 }))
  else none

/-! ## The completion of a validation (R173) -/

/-- The run state with validation idle and this mark. -/
def endValidation (mark : Bool) (s : State) : State := s.setRun { s.run with validation := none, mark := mark }

/-- VALIDATION_COMPLETION (R173): START_RUN is answered, and the part enters RUN when no failure is found and sync is not lost. -/
def validationCompletion (s : State) : Option State :=
  match s.run.validation with
  | none => none
  | some v =>
    match validate s.tables with
    | some f => some (reply v.tag (endValidation s.run.mark s, some (.tableInvalid, .invalid f.detail f.index)))
    | none =>
      let s' := endValidation true s
      some (reply v.tag (if s.conv.inSync then accept (enterRun s') else refuse .conditionPresent s'))

/-- The bound of R173: the completion comes no later than 50 ms after the start. -/
def validationOverdue (s : State) : Option State :=
  if s.run.validation.any fun v => decide (ms Config.validationMs ≤ v.elapsed) then validationCompletion s else none

end Sys2Proof.Machine
end

