-- ==== Sys2Proof/Machine/GuardMonitor.lean ====
section
/-! DEFINITION. The Guard Monitor (chapter 5): accumulation and blocks (R85), the guard level (R86, R87), the two streams (R88, R89), the
taint (R90, R91) and the release from Guard Hold (R93). -/

namespace Sys2Proof.Machine

open Sys2Proof

/-- The guard block length B (R83). -/
def blockLength (c : Configuration) : Nat := 96 * 2 ^ c.guardExponent

/-- The square of a sample. -/
def squareOf (x : Sample) : Nat := x.toInt.natAbs ^ 2

/-- One frame of the Guard Monitor: the squares of GRD0 and GRD1, and whether the frame sets the block overload mark (R85). -/
def Guard.frame (g : Guard) (x0 x1 : Sample) (marked : Bool) : Guard :=
  { g with sum0 := g.sum0 + squareOf x0, sum1 := g.sum1 + squareOf x1, mark := g.mark || marked }

/-- The guard level of a block of B frames whose larger sum is S (R86). -/
def guardLevel (sum b : Nat) : Int := roundLog sum (b * fullScale ^ 2)

/-- A block exceeds a threshold when its level is above it or the block is overloaded (R87, R88). -/
def blockExceeds (level threshold : Int) (overloaded : Bool) : Bool := decide (threshold < level) || overloaded

/-- A stream advanced by block k (R88): the stream after, the first declared block where blocks are declared at this block end, and
whether the run is declared at it (R89). -/
def Stream.advance (x : Stream) (d k : Nat) (exceeds : Bool) : Stream × Option Nat × Bool :=
  if !exceeds then (Stream.zero, none, false)
  else if x.declared then (x, some k, false)
  else
    let first := if x.run = 0 then k else x.first.getD k
    if d ≤ x.run + 1 then (⟨d, true, some first⟩, some first, true) else (⟨x.run + 1, false, some first⟩, none, false)

/-- Whether the blocks from `a` to `k` of B frames overlap the frames from `first` to `last` (R90). -/
def overlaps (b a k first last : Nat) : Bool := decide (a * b ≤ last) && decide (first < (k + 1) * b)

/-- The stream of a step's class (R90). -/
def streamOf : StepClass → StreamId
  | .quiet => .quiet
  | .loud | .neutral => .normal

/-- A record of Guard Hold after blocks `a` to `k` are declared in a stream (R91). -/
def WindowRecord.declare (b a k : Nat) (id : StreamId) (w : WindowRecord) : WindowRecord :=
  if decide (streamOf w.cls = id) && decide (w.taint = .none) && overlaps b a k (w.lastFrame + 1 - w.mEff) w.lastFrame then
    { w with taint := .ambient }
  else w

/-- A watch entry after blocks `a` to `k` are declared in a stream (R91). An entry with no latest frame has no window frame yet. -/
def WatchEntry.declare (b a k : Nat) (id : StreamId) (e : WatchEntry) : WatchEntry :=
  match e.latest with
  | some last => if decide (e.stream = id) && overlaps b a k e.first last then { e with mark := true } else e
  | none => e

/-- The taint of a stream's declared blocks, from the first declared one to block k (R91). -/
def declareBlocks (b k : Nat) (id : StreamId) (first : Option Nat) (s : State) : State :=
  match first with
  | none => s
  | some a =>
    (s.setStore { s.store with guardHold := s.store.guardHold.map (WindowRecord.declare b a k id) }).setGuard
      { s.guard with watch := s.guard.watch.map (WatchEntry.declare b a k id) }

/-- The GUARD_EXCEEDED event of a run just declared (R89). -/
def raiseExceeded (b : Nat) (id : StreamId) (x : Stream) (declared : Bool) (level : Int) (overloaded : Bool) (s : State) : State :=
  match declared, x.first with
  | true, some first => handOver (.guardExceeded id first (first * b) level overloaded) s
  | _, _ => s

/-- A record's release block has ended at the end of block k (R93). -/
def released (b d k : Nat) (w : WindowRecord) : Bool := decide (w.lastFrame / b + d ≤ k + 1)

/-- The release from the head of Guard Hold to the tail of the Judge Queue (R93, R79). -/
def Store.release (x : Store) (b d k : Nat) : Store :=
  { x with
    guardHold := x.guardHold.dropWhile (released b d k)
    judgeQueue := x.judgeQueue ++ x.guardHold.takeWhile (released b d k) }

/-- The Guard Monitor after the block end of block k: the block kept, both sums and the mark cleared, the streams advanced (R85). -/
def Guard.endBlock (g : Guard) (k : Nat) (level : Int) (normal quiet : Stream) : Guard :=
  { g with
    sum0 := 0, sum1 := 0, mark := false, due := none
    last := some ⟨k, level, g.mark⟩
    normal := normal
    quiet := quiet }

/-- The block end of block k, in the order of R85: level, streams, taint, release. -/
def endGuardBlock (k : Nat) (s : State) : State :=
  let c := s.tables.config
  let b := blockLength c
  let level := guardLevel (max s.guard.sum0 s.guard.sum1) b
  let clipped := s.guard.mark
  let normal := s.guard.normal.advance c.guardDebounce k (blockExceeds level c.normalThreshold clipped)
  let quiet := s.guard.quiet.advance c.guardDebounce k (blockExceeds level c.quietThreshold clipped)
  let s₁ := s.setGuard (s.guard.endBlock k level normal.1 quiet.1)
  let s₂ := raiseExceeded b .quiet quiet.1 quiet.2.2 level clipped (raiseExceeded b .normal normal.1 normal.2.2 level clipped s₁)
  let s₃ := declareBlocks b k .quiet quiet.2.1 (declareBlocks b k .normal normal.2.1 s₂)
  s₃.setStore (s₃.store.release b c.guardDebounce k)

/-- GUARD_BLOCK_END (R85): a block whose last frame has been accumulated ends. -/
def guardBlockEnd (s : State) : Option State :=
  match s.guard.due with
  | some k => some (endGuardBlock k s)
  | none => none

end Sys2Proof.Machine
end

