-- ==== Sys2Proof/Machine/Settle.lean ====
section
/-! DEFINITION. What happens within one event: the consequences that the spec places in the event that causes them, taken one after
another until none is left (log entry 7), and the events of the frame count and the reference clock that have fallen due (log entry 6). -/

namespace Sys2Proof.Machine

open Sys2Proof

/-- The events that happen within the event that makes their condition hold, in the order in which they are taken: what a release or an
abort applies, which is the passing conditions, the quiet grant and the loud gate (R50, R52: in this order, log entry 9), and the wait
timer (R59), on the state that the release or the abort has left; then a freed record goes to the head of the close-wait list, whose
own release is followed by the same (R76); the pair grant (R67); the end of a SETTLE of 0 frames (R39), for several nests of one event in
ascending nest order, so that they join the Allocation Queue in that order (log entry 29); the FINISHING table (R12), whose retry follows what the release of the
plan's last step applied, so that a quiet retry joins the queue after a pass of that release (log entry 37); the Figure Unit's
taking (R98); the disposal reservations before the waiting reply, the drop report and the head command (R193); the marker frame (R166);
HELD (R176). -/
def internals : List (State → Option State) :=
  [permitPass, quietGrant, loudGatePass, waitTimerChange, windowClose, pairGrant,
   zeroSettle 0, zeroSettle 1, zeroSettle 2, zeroSettle 3,
   retryStart 0, retryStart 1, retryStart 2, retryStart 3,
   grading 0, grading 1, grading 2, grading 3,
   figureUnitTake, reserveNext, markerFrameStart, waitingReply, reportsDropped, heldReached, serve]

/-- The first consequence whose condition holds. -/
def nextInternal (s : State) : Option State := internals.findSome? fun event => event s

/-- The consequences of an event, one after another, at most `fuel` of them. -/
def settleWith : Nat → State → State
  | 0, s => s
  | fuel + 1, s =>
    match nextInternal s with
    | some t => settleWith fuel t
    | none => s

/-- More consequences than one event can have (log entry 7). -/
def settleFuel : Nat := 256

/-- The state at the end of an event. -/
def settle (s : State) : State := settleWith settleFuel s

/-- The events that end with a frame, or are due at a bound of the reference clock, in the order in which those that are due together
are taken (log entries 6 and 19). -/
def dueEvents : List (State → Option State) :=
  [computationOverdue, validationOverdue,
   settleEnd 0, windowOpen 0, lastWindowFrame 0, windowlessStepEnd 0,
   settleEnd 1, windowOpen 1, lastWindowFrame 1, windowlessStepEnd 1,
   settleEnd 2, windowOpen 2, lastWindowFrame 2, windowlessStepEnd 2,
   settleEnd 3, windowOpen 3, lastWindowFrame 3, windowlessStepEnd 3,
   guardBlockEnd, permitArrival, permitPulseEnd, permitGapEnd, holdLimitExpiry, permitTimeout,
   disposalStall 0, disposalStall 1, disposalStall 2, disposalStall 3, replyTimeout]
  ++ allInputs.map debouncedEdge

/-- An event taken if its condition holds, with its consequences; the state unchanged otherwise (log entry 8). -/
def happen (event : State → Option State) (s : State) : State :=
  match event s with
  | some t => settle t
  | none => s

/-- The due events taken, each with its consequences, before time goes on (log entry 6). -/
def flush (s : State) : State := dueEvents.foldl (fun s event => happen event s) s

/-! ## Time (log entry 5) -/

/-- An input's hold, `k` frame periods later. -/
def InputState.tick (k : Nat) (x : InputState) : InputState := { x with hold := x.hold.map (· + k) }

/-- The nine inputs, `k` frame periods later. -/
def Inputs.tick (k : Nat) (i : Inputs) : Inputs where
  present := i.present.map (InputState.tick k)
  clamp := i.clamp.map (InputState.tick k)
  engEnable := i.engEnable.tick k
  alertClr := i.alertClr.tick k
  markerReady := i.markerReady.tick k

/-- A nest's stall timer, `k` frame periods later. -/
def Nest.tick (k : Nat) (x : Nest) : Nest := { x with stall := x.stall.map (Timer.advance k) }

/-- The two permit timers, `k` frame periods later. -/
def Permit.tick (k : Nat) (p : Permit) : Permit :=
  { p with holdTimer := p.holdTimer.map (Timer.advance k), waitTimer := p.waitTimer.map (Timer.advance k) }

/-- The reply timer, `k` frame periods later. -/
def Marker.tick (k : Nat) (m : Marker) : Marker := { m with replyTimer := m.replyTimer.map (Timer.advance k) }

/-- A validation in flight, `k` frame periods later. -/
def RunControl.tick (k : Nat) (r : RunControl) : RunControl :=
  { r with validation := r.validation.map fun v => { v with elapsed := v.elapsed + k } }

/-- Every measure of the reference clock, `k` frame periods later. -/
def tick (k : Nat) (s : State) : State :=
  ((((s.setInputs (s.inputs.tick k)).setNests (s.nests.map (Nest.tick k))).setPermit (s.permit.tick k)).setMarker
    (s.marker.tick k)).setRun (s.run.tick k)

/-- `k` frame periods of the reference clock in which no frame event comes: what falls due is taken before each of them, as it is before a
frame event (log entries 6 and 27), so that no bound of the reference clock is overrun (R173). -/
def lapse : Nat → State → State
  | 0, s => s
  | k + 1, s => lapse k (tick 1 (flush s))

end Sys2Proof.Machine
end

