-- ==== Sys2Proof/Machine/Frames.lean ====
section
/-! DEFINITION. One frame event (chapters 2, 4, 5 and 11): the frame of each nest and its synthesiser (R34 to R37, R42, R69, R70), of the
Guard Monitor (R85) and of the Permit Interface (R54, R57), and the exchange of the two Station Port frames (R189 to R192, R200). -/

namespace Sys2Proof.Machine

open Sys2Proof

/-! ## A nest's frame -/

/-- The amplitude of the frame that the nest counts next (R36, R37): muted outside TESTING and in GATE_WAIT; `count` frames of SETTLE
have been counted before it. -/
def frameAmplitude (x : Nest) : Nat :=
  match x.state, x.phase, x.step with
  | .testing, some .settle, some st =>
    if x.count < st.ramp then
      (x.synth.rampStart + roundDiv (((st.target : Int) - x.synth.rampStart) * (x.count + 1)) st.ramp).toNat
    else st.target
  | .testing, some .gateWait, _ => 0
  | .testing, some _, some st => st.target
  | _, _, _ => 0

/-- The drive sample of the frame (R35, R37). -/
def driveSample (x : Nest) : Int := sineOf (frameAmplitude x) x.synth.phase.toNat

/-- The synthesiser after the frame (R34): a nest in TESTING advances its phase; any other holds it and plays no drive. -/
def Nest.advanceSynth (x : Nest) : Synth :=
  if x.state = .testing then
    { x.synth with
      phase := x.synth.phase + x.synth.inc
      amplitude := frameAmplitude x
      wrapped := decide (2 ^ 32 ≤ x.synth.phase.toNat + x.synth.inc.toNat) }
  else { x.synth with amplitude := 0, wrapped := false }

/-- The pair after a window frame (R69): x × C to I and x × S to Q, at h times the frame's phase. -/
def Pair.accumulate (phase : Phase) (mic cur : Sample) (p : Pair) : Pair :=
  let x := (match p.channel with
    | .mic => mic
    | .cur => cur).toInt
  let θ := p.h * phase.toNat
  { p with i := p.i + x * cosineOf 32767 θ, q := p.q + x * sineOf 32767 θ }

/-- The nest's counts after the frame: SETTLE and MEASURE count their frames (R39, R42, R44). -/
def frameCount (x : Nest) : Nat :=
  match x.phase with
  | some .settle | some .measure => x.count + 1
  | _ => x.count

/-- The window's quantities after a window frame (R69 to R72); `marked` says that the MIC slot is overloaded or that the frame is timed
from the reference clock. -/
def Nest.windowFrame (x : Nest) (mic cur : Sample) (marked : Bool) (number : Nat) : Nest :=
  { x with
    pairs := x.pairs.map (Pair.accumulate x.synth.phase mic cur)
    peak := max x.peak mic.toInt.natAbs
    overload := x.overload || marked
    lastFrame := number }

/-- A nest after a frame. -/
def Nest.frame (x : Nest) (mic cur : Sample) (marked : Bool) (number : Nat) : Nest :=
  let y := if windowIsOpen x then x.windowFrame mic cur marked number else x
  { y with count := frameCount x, synth := x.advanceSynth }

/-- The watch entries after a frame: an open window's latest frame is this one (R92). -/
def watchFrame (s : State) (number : Nat) : List WatchEntry :=
  s.guard.watch.map fun e => if windowIsOpen (s.nest e.nest) then { e with latest := some number } else e

/-! ## The part's frame -/

/-- The frame's zero slots while it is timed from the reference clock (R188). -/
def zeroFrame : InFrame := ⟨Vector.replicate 4 ⟨0, false⟩, Vector.replicate 4 ⟨0, false⟩, Vector.replicate 2 ⟨0, false⟩⟩

/-- The overload flags of a frame, in the order of its slots (R186). -/
def overloadsOf (f : InFrame) : Vector Bool 10 :=
  #v[f.mic[0].overload, f.mic[1].overload, f.mic[2].overload, f.mic[3].overload, f.cur[0].overload, f.cur[1].overload,
     f.cur[2].overload, f.cur[3].overload, f.grd[0].overload, f.grd[1].overload]

/-- Nest `n` after the frame. -/
def nestFrame (s : State) (f : InFrame) (timed : Bool) (number : Nat) (n : NestId) : Nest :=
  (s.nest n).frame f.mic[n].sample f.cur[n].sample (f.mic[n].overload || timed) number

/-- The Guard Monitor after the frame, while active (R84, R85): the sums, the mark, the watch entries, and the block whose end is due. -/
def guardFrame (s : State) (f : InFrame) (timed : Bool) (number : Nat) : Guard :=
  let g := { s.guard with watch := watchFrame s number }
  if s.run.mode.running then
    let b := blockLength s.tables.config
    { g.frame f.grd[0].sample f.grd[1].sample (f.grd[0].overload || f.grd[1].overload || timed) with
      due := if (number + 1) % b = 0 then some (number / b) else none }
  else g

/-- The Converter Port after the frame (R187, R188, R71). -/
def converterFrame (s : State) (f : InFrame) (timed : Bool) : Converter where
  inSync := !timed
  overloads := overloadsOf f
  frameNumber := s.conv.frameNumber + 1
  drive := #v[driveSample (s.nest 0), driveSample (s.nest 1), driveSample (s.nest 2), driveSample (s.nest 3)]
  driveSent := !timed

/-- The Permit Interface after the frame: a set latch is now due (R54), and the out cycle has lasted one frame more (R57). -/
def Permit.frame (p : Permit) : Permit := { p with due := p.latch, cycle := p.cycle.frame }

/-- The Figure Unit's bound counts the frame event (R99). -/
def Store.frame (x : Store) : Store := { x with computing := x.computing.map fun c => { c with frames := c.frames + 1 } }

/-- One frame of every block, before the Station Port's exchange. `timed` says that the frame is timed from the reference clock. -/
def runFrame (f : InFrame) (timed : Bool) (s : State) : State :=
  let number := s.conv.frameNumber
  (((((s.setConv (converterFrame s f timed)).setNests
      #v[nestFrame s f timed number 0, nestFrame s f timed number 1, nestFrame s f timed number 2, nestFrame s f timed number 3]).setGuard
    (guardFrame s f timed number)).setPermit s.permit.frame).setStore s.store.frame)

/-! ## The upstream frame (R189, R190, R192, R200) -/

/-- The sample of a tap slot (R200); `gates` holds, for each nest, whether the frame was one of its window frames. -/
def tapSample (f : InFrame) (drive : Vector Int 4) (gates : Vector Bool 4) : TapSource → Sample
  | .none => 0
  | .mic n => f.mic[n].sample
  | .cur n => f.cur[n].sample
  | .grd g => f.grd[g].sample
  | .drv n => Sample.ofInt drive[n]
  | .micGated n => if gates[n] then f.mic[n].sample else 0

/-- The three bytes of a sample slot, most significant first (R189). -/
def sampleBytes (x : Sample) : List Byte := [x.extractLsb' 16 8, x.extractLsb' 8 8, x.extractLsb' 0 8]

/-- The code of a mode in the status byte (R189). -/
def modeCode : Mode → Nat
  | .standby => 0 | .run => 1 | .holding => 2 | .held => 3 | .stopped => 4

/-- The status byte (R189). -/
def statusByte (s : State) : Byte :=
  BitVec.ofNat 8 (modeCode s.run.mode + (if alertHigh s.port then 8 else 0) + (if s.permit.held then 16 else 0)
    + (if s.lot.yieldLow then 32 else 0))

/-- One bit of the CRC-8 with generator x⁸ + x² + x + 1 (R189). -/
def crcShift (c : Byte) : Byte := if c.msb then (c <<< 1) ^^^ 7 else c <<< 1

/-- One byte of the CRC-8. -/
def crcByte (c b : Byte) : Byte :=
  crcShift (crcShift (crcShift (crcShift (crcShift (crcShift (crcShift (crcShift (c ^^^ b))))))))

/-- The frame check of a run of bytes: initial value 0, no final inversion (R189). -/
def frameCheck (bytes : List Byte) : Byte := bytes.foldl crcByte 0

/-- The type byte of an upstream message (R189). -/
def messageType : Message → Byte
  | .reply _ => 129
  | .unitReport _ => 130
  | .stepReport _ => 131
  | .notice _ => 132

/-- The tag of an upstream message (R189, R194, R198). -/
def messageTag : Message → Byte
  | .reply r => r.tag
  | _ => 0

/-- A payload in parts: every part but the last has length byte 255 and 250 bytes (R190). A payload that is an exact multiple of 250 bytes
ends with a part of 250 bytes (DESIGN CHOICE, log entry 33). The fuel is at least the number of parts. -/
def partsOf (type tag : Byte) : Nat → List Byte → List Byte
  | 0, _ => []
  | fuel + 1, payload =>
    if payload.length ≤ 250 then type :: tag :: BitVec.ofNat 8 payload.length :: payload
    else type :: tag :: 255 :: payload.take 250 ++ partsOf type tag fuel (payload.drop 250)

/-- The bytes of an upstream message (R189, R190); its payload layout is a free value (log entry 4). -/
def messageBytes (m : Message) : List Byte :=
  let payload := Config.encodePayload m
  partsOf (messageType m) (messageTag m) (payload.length + 1) payload

/-- The head message leaves the Result Queue at the event that sends its first byte, and goes into sending (R192). -/
def beginMessage (m : Message) (rest : List Message) (s : State) : State :=
  s.setPort { s.port with results := rest, sending := (messageBytes m).tail }

/-- One upstream lane byte: the next byte of the message in sending, the type byte of the head message, or filler (R192). What a leave
lets happen follows in the same event (R193). -/
def sendByte (s : State) : Byte × State :=
  match s.port.sending with
  | b :: rest => (b, s.setPort { s.port with sending := rest })
  | [] =>
    match s.port.results with
    | m :: rest => if s.port.holdOff then (0, s) else ((messageBytes m).headD 0, settle (beginMessage m rest s))
    | [] => (0, s)

/-- The upstream frame: eight sample slots, the status byte, four lane bytes and the frame check (R189, R192). The status byte is read before
the lane bytes are filled, so it does not show what a message that leaves in this frame lets happen (DESIGN CHOICE, log entry 31). -/
def sendUpstream (samples : List Byte) (s : State) : State :=
  let status := statusByte s
  let b1 := sendByte s
  let b2 := sendByte b1.2
  let b3 := sendByte b2.2
  let b4 := sendByte b3.2
  let body := samples ++ [status, b1.1, b2.1, b3.1, b4.1]
  b4.2.setPort { b4.2.port with upstream := body ++ [frameCheck body] }

/-! ## The downstream frame (R189, R191) -/

/-- The type of a command (R195). -/
def commandType : Command → Nat
  | .writeTable _ => 1 | .readTable _ _ => 2 | .startRun => 3 | .stopRun => 4
  | .holdSmart => 5 | .holdForce => 5 | .resume => 6 | .newLot _ _ _ => 7
  | .startUnit _ _ _ => 8 | .abortUnit _ => 9 | .clearNestAlert _ => 10 | .clearFault => 11
  | .resetPart => 12 | .setNotices _ => 13 | .clearNotices _ => 14 | .setAlerts _ => 15
  | .clearAlerts _ => 16 | .ackAlerts _ => 17 | .readStatus => 18 | .readNest _ => 19
  | .readLot => 20 | .readFaults => 21

/-- The command of a type that carries no fields (R195). -/
def emptyCommand : Nat → Option Command
  | 3 => some .startRun | 4 => some .stopRun | 6 => some .resume | 11 => some .clearFault
  | 12 => some .resetPart | 18 => some .readStatus | 20 => some .readLot | 21 => some .readFaults
  | _ => none

/-- What a message asks, from its type and payload (R194). The layout of a payload with fields is a free value (log entry 4). -/
def requestOf (type : Nat) (payload : List Byte) : Request :=
  if type = 0 ∨ 21 < type then .unknown
  else
    match emptyCommand type with
    | some c => if payload.isEmpty then .command c else .malformed
    | none =>
      match Config.decodeFields type payload with
      | some c => if commandType c = type then .command c else .malformed
      | none => .malformed

/-- A message whose last byte has been assembled arrives at the Command Buffer (R191). -/
def finishMessage (bytes : List Byte) (s : State) : State :=
  let s' := s.setPort { s.port with assembly := [] }
  match bytes with
  | type :: tag :: _ :: payload => settle (arrive ⟨tag, requestOf type.toNat payload⟩ s')
  | _ => s'

/-- Keeps the bytes of a message partly assembled. -/
def keepAssembly (bytes : List Byte) (s : State) : State := s.setPort { s.port with assembly := bytes }

/-- A header whose length byte is above 250 is discarded and counted (R191). -/
def badMessage (s : State) : State :=
  s.setPort { s.port with assembly := [], badMessages := satInc s.port.badMessages }

/-- One downstream lane byte (R189, R191). -/
def assembleByte (s : State) (b : Byte) : State :=
  match s.port.assembly with
  | [] => if b = 0 then s else keepAssembly [b] s
  | [type] => keepAssembly [type, b] s
  | [type, tag] =>
    if 250 < b.toNat then badMessage s
    else if b = 0 then finishMessage [type, tag, b] s
    else keepAssembly [type, tag, b] s
  | type :: tag :: len :: payload =>
    let bytes := type :: tag :: len :: payload ++ [b]
    if len.toNat ≤ payload.length + 1 then finishMessage bytes s else keepAssembly bytes s

/-- A downstream frame whose check matches: HOLD_OFF, and the four lane bytes in order (R191). -/
def takeGoodFrame (d : DownFrame) (s : State) : State :=
  [d[1], d[2], d[3], d[4]].foldl assembleByte (s.setPort { s.port with holdOff := d[0].getLsbD 0 })

/-- A downstream frame whose check does not match, or that was not received complete (R191). -/
def takeBadFrame (s : State) : State := s.setPort { s.port with assembly := [], badFrames := satInc s.port.badFrames }

/-- The check of a downstream frame matches (R189, R191). -/
def goodFrame (d : DownFrame) : Bool := frameCheck [d[0], d[1], d[2], d[3], d[4]] == d[5]

/-- The downstream frame of a frame event, absent when no complete one was received (R191). -/
def takeDownstream (down : Option DownFrame) (s : State) : State :=
  match down with
  | some d => if goodFrame d then takeGoodFrame d s else takeBadFrame s
  | none => takeBadFrame s

/-! ## The frame event -/

/-- The bytes of the eight sample slots: `before` is the state before the frame's count, whose open windows count this frame (R200, R82). -/
def slotBytes (f : InFrame) (before after : State) : List Byte :=
  let gates : Vector Bool 4 :=
    #v[windowIsOpen (before.nest 0), windowIsOpen (before.nest 1), windowIsOpen (before.nest 2), windowIsOpen (before.nest 3)]
  after.tables.taps.toList.flatMap fun x => sampleBytes (tapSample f after.conv.drive gates x)

/-- The exchange of the Station Port frames, in either order (R191, log entry 10). -/
def exchange (samples : List Byte) (down : Option DownFrame) (downFirst : Bool) (s : State) : State :=
  if downFirst then sendUpstream samples (takeDownstream down s) else takeDownstream down (sendUpstream samples s)

/-- A frame event: what is due is taken first (log entry 6), the reference clock goes on by one frame period (log entry 5), every block
takes its frame, and the Station Port exchanges its frames. -/
def frameEvent (f : InFrame) (timed : Bool) (down : Option DownFrame) (downFirst : Bool) (s : State) : State :=
  let before := tick 1 (flush s)
  let after := runFrame f timed before
  exchange (slotBytes f before after) down downFirst after

end Sys2Proof.Machine
end

