-- ==== Sys2Proof/Machine/EventRows.lean ====
section
/-! DEFINITION. The meanings of the rows of the table that are events: each takes its event, if its condition holds (log entry 8),
and then the consequences that the spec places in the same event (log entry 7). -/

namespace Sys2Proof.Machine

open Sys2Proof

/-- The outcome of a row of the table. -/
abbrev Result := Host.Outcome State Fault Refusal

/-- The level of an input becomes `level` (R1). -/
def setLevel (i : Input) (level : Bool) (s : State) : State :=
  s.setInputs (s.inputs.set i ((s.inputs.get i).toLevel level))

/-- The permit-in latch is set (R54). -/
def setLatch (s : State) : State := s.setPermit { s.permit with latch := true }

/-- POWER_ON (R185): every block takes its power-on state; the queue of waiting commands is the model's own and stays. -/
def execPowerOn (levels : Levels) (s : State) : Result :=
  .next (State.powerOn levels s.pending)

/-- INPUT_HOLD_START (R1): the level of an input becomes `level`; an edge already due is delivered first (log entry 6). -/
def execInputHoldStart (i : Input) (level : Bool) (s : State) : Result :=
  .next (setLevel i level (happen (debouncedEdge i) s))

/-- DEBOUNCED_EDGE (R1). -/
def execDebouncedEdge (i : Input) (s : State) : Result :=
  .next (happen (debouncedEdge i) s)

/-- FRAME_EVENT (R187, R188, R189). -/
def execFrameEvent (f : InFrame) (down : Option DownFrame) (downFirst : Bool) (s : State) : Result :=
  .next (settle (frameEvent f false down downFirst s))

/-- REFERENCE_FRAME_EVENT (R188): only while sync is lost. -/
def execReferenceFrameEvent (down : Option DownFrame) (downFirst : Bool) (s : State) : Result :=
  .next (if s.conv.inSync then s else settle (frameEvent zeroFrame true down downFirst s))

/-- CONVERTER_SYNC_LOST (R188): 1 ms of the reference clock has passed with no frame marker, in which what falls due is taken
(log entry 27); only in sync. -/
def execConverterSyncLost (s : State) : Result :=
  .next (if s.conv.inSync then settle (declareLoss (lapse Config.framesPerMs s)) else s)

/-- PERMIT_IN_RISE (R54): sets the latch; an arrival already due is taken first (log entry 22). -/
def execPermitInRise (s : State) : Result :=
  .next (setLatch (happen permitArrival s))

/-- PERMIT_ARRIVAL (R54 to R56). -/
def execPermitArrival (s : State) : Result :=
  .next (happen permitArrival s)

/-- PERMIT_PULSE_END (R57). -/
def execPermitPulseEnd (s : State) : Result :=
  .next (happen permitPulseEnd s)

/-- PERMIT_GAP_END (R57). -/
def execPermitGapEnd (s : State) : Result :=
  .next (happen permitGapEnd s)

/-- HOLD_LIMIT_EXPIRY (R58). -/
def execHoldLimitExpiry (s : State) : Result :=
  .next (happen holdLimitExpiry s)

/-- PERMIT_TIMEOUT (R59). -/
def execPermitTimeout (s : State) : Result :=
  .next (happen permitTimeout s)

/-- QUIET_GRANT (R49). -/
def execQuietGrant (s : State) : Result :=
  .next (happen quietGrant s)

/-- LOUD_GATE_PASS (R51). -/
def execLoudGatePass (s : State) : Result :=
  .next (happen loudGatePass s)

/-- SETTLE_END (R39). -/
def execSettleEnd (n : NestId) (s : State) : Result :=
  .next (happen (settleEnd n) s)

/-- PAIR_GRANT (R67). -/
def execPairGrant (s : State) : Result :=
  .next (happen pairGrant s)

/-- WINDOW_OPEN (R41). -/
def execWindowOpen (n : NestId) (s : State) : Result :=
  .next (happen (windowOpen n) s)

/-- LAST_WINDOW_FRAME (R42). -/
def execLastWindowFrame (n : NestId) (s : State) : Result :=
  .next (happen (lastWindowFrame n) s)

/-- WINDOW_CLOSE (R73, R76). -/
def execWindowClose (s : State) : Result :=
  .next (happen windowClose s)

/-- WINDOWLESS_STEP_END (R44). -/
def execWindowlessStepEnd (n : NestId) (s : State) : Result :=
  .next (happen (windowlessStepEnd n) s)

/-- GUARD_BLOCK_END (R85). -/
def execGuardBlockEnd (s : State) : Result :=
  .next (happen guardBlockEnd s)

/-- FIGURE_UNIT_TAKE (R98). -/
def execFigureUnitTake (s : State) : Result :=
  .next (happen figureUnitTake s)

/-- FIGURE_UNIT_COMPLETION (R100, R101): at any moment of the computation (R99). -/
def execFigureUnitCompletion (s : State) : Result :=
  .next (happen figureUnitCompletion s)

/-- RETRY_START (R127). -/
def execRetryStart (n : NestId) (s : State) : Result :=
  .next (happen (retryStart n) s)

/-- GRADING (R133). -/
def execGrading (n : NestId) (s : State) : Result :=
  .next (happen (grading n) s)

/-- DISPOSAL (R14). -/
def execDisposal (n : NestId) (s : State) : Result :=
  .next (happen (disposal n) s)

/-- ABORTED_DISPOSAL (R21). -/
def execAbortedDisposal (n : NestId) (s : State) : Result :=
  .next (happen (abortedDisposal n) s)

/-- DISPOSAL_STALL (R15). -/
def execDisposalStall (n : NestId) (s : State) : Result :=
  .next (happen (disposalStall n) s)

/-- MARKER_FRAME_START (R166). -/
def execMarkerFrameStart (s : State) : Result :=
  .next (happen markerFrameStart s)

/-- SEND_COMPLETION (R166): at the end of the frame in sending (log entry 21). -/
def execSendCompletion (s : State) : Result :=
  .next (happen sendCompletion s)

/-- ACK (R167): the byte ACK comes on MARKER_RX; in IDLE or SENDING it is ignored. -/
def execAck (s : State) : Result :=
  .next (happen (receiveLine (lineForm ackByte)) s)

/-- NAK (R167, R168): the byte NAK comes on MARKER_RX; in IDLE or SENDING it is ignored. -/
def execNak (s : State) : Result :=
  .next (happen (receiveLine (lineForm nakByte)) s)

/-- REPLY_TIMEOUT (R167). -/
def execReplyTimeout (s : State) : Result :=
  .next (happen replyTimeout s)

/-- VALIDATION_COMPLETION (R173): at any moment of the validation. -/
def execValidationCompletion (s : State) : Result :=
  .next (happen validationCompletion s)

/-- HELD_REACHED (R176). -/
def execHeldReached (s : State) : Result :=
  .next (happen heldReached s)

/-- WAITING_REPLY (R194). -/
def execWaitingReply (s : State) : Result :=
  .next (happen waitingReply s)

/-- REPORTS_DROPPED (R197). -/
def execReportsDropped (s : State) : Result :=
  .next (happen reportsDropped s)

end Sys2Proof.Machine
end

