-- ==== Sys2Proof/Machine/StationRows.lean ====
section
/-! DEFINITION. The meanings of the rows of the table that are commands of the station controller: the message with these fields arrives
(R191), and is taken and answered in the same event when no reply is waiting and a slot is available (R194; log entry 3). -/

namespace Sys2Proof.Machine

open Sys2Proof

/-- WRITE_TABLE (R195). -/
def execWriteTable (tag : Byte) (w : TableWrite) (s : State) : Result :=
  .next (settle (arrive ⟨tag, .command (.writeTable w)⟩ s))

/-- READ_TABLE (R195). -/
def execReadTable (tag : Byte) (t : TableId) (index : Nat) (s : State) : Result :=
  .next (settle (arrive ⟨tag, .command (.readTable t index)⟩ s))

/-- START_RUN (R173). -/
def execStartRun (tag : Byte) (s : State) : Result :=
  .next (settle (arrive ⟨tag, .command .startRun⟩ s))

/-- STOP_RUN (R178). -/
def execStopRun (tag : Byte) (s : State) : Result :=
  .next (settle (arrive ⟨tag, .command .stopRun⟩ s))

/-- HOLD_SMART (R176). -/
def execHoldSmart (tag : Byte) (s : State) : Result :=
  .next (settle (arrive ⟨tag, .command .holdSmart⟩ s))

/-- HOLD_FORCE (R177). -/
def execHoldForce (tag : Byte) (s : State) : Result :=
  .next (settle (arrive ⟨tag, .command .holdForce⟩ s))

/-- RESUME (R177). -/
def execResume (tag : Byte) (s : State) : Result :=
  .next (settle (arrive ⟨tag, .command .resume⟩ s))

/-- NEW_LOT (R146). -/
def execNewLot (tag : Byte) (lotId : Text) (serialPrefix : Text) (serial : Text) (s : State) : Result :=
  .next (settle (arrive ⟨tag, .command (.newLot lotId serialPrefix serial)⟩ s))

/-- START_UNIT (R8). -/
def execStartUnit (tag : Byte) (nest : Nat) (plan : Nat) (prior : Option Text) (s : State) : Result :=
  .next (settle (arrive ⟨tag, .command (.startUnit nest plan prior)⟩ s))

/-- ABORT_UNIT (R18). -/
def execAbortUnit (tag : Byte) (nest : Nat) (s : State) : Result :=
  .next (settle (arrive ⟨tag, .command (.abortUnit nest)⟩ s))

/-- CLEAR_NEST_ALERT (R154). -/
def execClearNestAlert (tag : Byte) (nest : Nat) (s : State) : Result :=
  .next (settle (arrive ⟨tag, .command (.clearNestAlert nest)⟩ s))

/-- CLEAR_FAULT (R183). -/
def execClearFault (tag : Byte) (s : State) : Result :=
  .next (settle (arrive ⟨tag, .command .clearFault⟩ s))

/-- RESET_PART (R184). -/
def execResetPart (tag : Byte) (s : State) : Result :=
  .next (settle (arrive ⟨tag, .command .resetPart⟩ s))

/-- SET_NOTICES (R198). -/
def execSetNotices (tag : Byte) (kinds : List NoticeArg) (s : State) : Result :=
  .next (settle (arrive ⟨tag, .command (.setNotices kinds)⟩ s))

/-- CLEAR_NOTICES (R198). -/
def execClearNotices (tag : Byte) (kinds : List NoticeArg) (s : State) : Result :=
  .next (settle (arrive ⟨tag, .command (.clearNotices kinds)⟩ s))

/-- SET_ALERTS (R199). -/
def execSetAlerts (tag : Byte) (kinds : List NoticeArg) (s : State) : Result :=
  .next (settle (arrive ⟨tag, .command (.setAlerts kinds)⟩ s))

/-- CLEAR_ALERTS (R199). -/
def execClearAlerts (tag : Byte) (kinds : List NoticeArg) (s : State) : Result :=
  .next (settle (arrive ⟨tag, .command (.clearAlerts kinds)⟩ s))

/-- ACK_ALERTS (R199). -/
def execAckAlerts (tag : Byte) (kinds : List NoticeArg) (s : State) : Result :=
  .next (settle (arrive ⟨tag, .command (.ackAlerts kinds)⟩ s))

/-- READ_STATUS (R201). -/
def execReadStatus (tag : Byte) (s : State) : Result :=
  .next (settle (arrive ⟨tag, .command .readStatus⟩ s))

/-- READ_NEST (R23). -/
def execReadNest (tag : Byte) (nest : Nat) (s : State) : Result :=
  .next (settle (arrive ⟨tag, .command (.readNest nest)⟩ s))

/-- READ_LOT (R155). -/
def execReadLot (tag : Byte) (s : State) : Result :=
  .next (settle (arrive ⟨tag, .command .readLot⟩ s))

/-- READ_FAULTS (R182). -/
def execReadFaults (tag : Byte) (s : State) : Result :=
  .next (settle (arrive ⟨tag, .command .readFaults⟩ s))

/-- UNKNOWN_COMMAND (R194): a message whose type is not a command; every such type is answered alike. -/
def execUnknownCommand (tag _type : Byte) (s : State) : Result :=
  .next (settle (arrive ⟨tag, .unknown⟩ s))

end Sys2Proof.Machine
end

