-- ==== Sys2Proof/Machine/Dispatch.lean ====
section
/-! DEFINITION. The one dispatch: every row of the table to its meaning. -/

namespace Sys2Proof.Machine

open Sys2Proof

def exec (i : Instr) (s : State) : Host.Outcome State Fault Refusal :=
  match i with
  | .powerOn levels => Sys2Proof.Machine.execPowerOn levels s
  | .inputHoldStart input level => Sys2Proof.Machine.execInputHoldStart input level s
  | .debouncedEdge input => Sys2Proof.Machine.execDebouncedEdge input s
  | .frameEvent f down downFirst => Sys2Proof.Machine.execFrameEvent f down downFirst s
  | .referenceFrameEvent down downFirst => Sys2Proof.Machine.execReferenceFrameEvent down downFirst s
  | .converterSyncLost => Sys2Proof.Machine.execConverterSyncLost s
  | .permitInRise => Sys2Proof.Machine.execPermitInRise s
  | .permitArrival => Sys2Proof.Machine.execPermitArrival s
  | .permitPulseEnd => Sys2Proof.Machine.execPermitPulseEnd s
  | .permitGapEnd => Sys2Proof.Machine.execPermitGapEnd s
  | .holdLimitExpiry => Sys2Proof.Machine.execHoldLimitExpiry s
  | .permitTimeout => Sys2Proof.Machine.execPermitTimeout s
  | .quietGrant => Sys2Proof.Machine.execQuietGrant s
  | .loudGatePass => Sys2Proof.Machine.execLoudGatePass s
  | .settleEnd n => Sys2Proof.Machine.execSettleEnd n s
  | .pairGrant => Sys2Proof.Machine.execPairGrant s
  | .windowOpen n => Sys2Proof.Machine.execWindowOpen n s
  | .lastWindowFrame n => Sys2Proof.Machine.execLastWindowFrame n s
  | .windowClose => Sys2Proof.Machine.execWindowClose s
  | .windowlessStepEnd n => Sys2Proof.Machine.execWindowlessStepEnd n s
  | .guardBlockEnd => Sys2Proof.Machine.execGuardBlockEnd s
  | .figureUnitTake => Sys2Proof.Machine.execFigureUnitTake s
  | .figureUnitCompletion => Sys2Proof.Machine.execFigureUnitCompletion s
  | .retryStart n => Sys2Proof.Machine.execRetryStart n s
  | .grading n => Sys2Proof.Machine.execGrading n s
  | .disposal n => Sys2Proof.Machine.execDisposal n s
  | .abortedDisposal n => Sys2Proof.Machine.execAbortedDisposal n s
  | .disposalStall n => Sys2Proof.Machine.execDisposalStall n s
  | .markerFrameStart => Sys2Proof.Machine.execMarkerFrameStart s
  | .sendCompletion => Sys2Proof.Machine.execSendCompletion s
  | .ack => Sys2Proof.Machine.execAck s
  | .nak => Sys2Proof.Machine.execNak s
  | .replyTimeout => Sys2Proof.Machine.execReplyTimeout s
  | .validationCompletion => Sys2Proof.Machine.execValidationCompletion s
  | .heldReached => Sys2Proof.Machine.execHeldReached s
  | .waitingReply => Sys2Proof.Machine.execWaitingReply s
  | .reportsDropped => Sys2Proof.Machine.execReportsDropped s
  | .writeTable tag w => Sys2Proof.Machine.execWriteTable tag w s
  | .readTable tag t index => Sys2Proof.Machine.execReadTable tag t index s
  | .startRun tag => Sys2Proof.Machine.execStartRun tag s
  | .stopRun tag => Sys2Proof.Machine.execStopRun tag s
  | .holdSmart tag => Sys2Proof.Machine.execHoldSmart tag s
  | .holdForce tag => Sys2Proof.Machine.execHoldForce tag s
  | .resume tag => Sys2Proof.Machine.execResume tag s
  | .newLot tag lotId serialPrefix serial => Sys2Proof.Machine.execNewLot tag lotId serialPrefix serial s
  | .startUnit tag nest plan prior => Sys2Proof.Machine.execStartUnit tag nest plan prior s
  | .abortUnit tag nest => Sys2Proof.Machine.execAbortUnit tag nest s
  | .clearNestAlert tag nest => Sys2Proof.Machine.execClearNestAlert tag nest s
  | .clearFault tag => Sys2Proof.Machine.execClearFault tag s
  | .resetPart tag => Sys2Proof.Machine.execResetPart tag s
  | .setNotices tag kinds => Sys2Proof.Machine.execSetNotices tag kinds s
  | .clearNotices tag kinds => Sys2Proof.Machine.execClearNotices tag kinds s
  | .setAlerts tag kinds => Sys2Proof.Machine.execSetAlerts tag kinds s
  | .clearAlerts tag kinds => Sys2Proof.Machine.execClearAlerts tag kinds s
  | .ackAlerts tag kinds => Sys2Proof.Machine.execAckAlerts tag kinds s
  | .readStatus tag => Sys2Proof.Machine.execReadStatus tag s
  | .readNest tag nest => Sys2Proof.Machine.execReadNest tag nest s
  | .readLot tag => Sys2Proof.Machine.execReadLot tag s
  | .readFaults tag => Sys2Proof.Machine.execReadFaults tag s
  | .unknownCommand tag type => Sys2Proof.Machine.execUnknownCommand tag type s

end Sys2Proof.Machine
end

