-- ==== Sys2Proof/Safety.lean ====
section
/-! DEFINITION. What the statements speak about: how an event ends, states in which nothing is left to happen, and the invariants that the
spec states of the whole part. -/

namespace Sys2Proof.Machine

open Sys2Proof

/-! ## States between events -/

/-- No consequence of an event is left to be taken: the state between two events. -/
abbrev Quiescent (s : State) : Prop := nextInternal s = none

/-- No event of the frame count or of the reference clock has fallen due (log entry 6). -/
abbrev NothingDue (s : State) : Prop := ∀ event ∈ dueEvents, event s = none

/-- The Station Port takes an arriving command at once: the Command Buffer is empty, no reply is waiting, and a reply slot is available
(R194). -/
abbrev Serving (s : State) : Prop := s.port.buffer = [] ∧ s.port.waiting = none ∧ s.port.results.length < 48

/-- The state in which a command's reply stands at the tail of the Result Queue, and nothing else is changed (R194). -/
def State.withReply (s : State) (tag : Byte) (code : ReplyCode) (data : ReplyData) : State :=
  s.setPort (s.port.place (.reply ⟨tag, code, data⟩))

/-- The message that a row of the station controller stands for: its tag and what it asks (R189, R194). -/
def messageOf : Instr → Option Buffered
  | .writeTable tag w => some ⟨tag, .command (.writeTable w)⟩
  | .readTable tag t i => some ⟨tag, .command (.readTable t i)⟩
  | .startRun tag => some ⟨tag, .command .startRun⟩
  | .stopRun tag => some ⟨tag, .command .stopRun⟩
  | .holdSmart tag => some ⟨tag, .command .holdSmart⟩
  | .holdForce tag => some ⟨tag, .command .holdForce⟩
  | .resume tag => some ⟨tag, .command .resume⟩
  | .newLot tag i p v => some ⟨tag, .command (.newLot i p v)⟩
  | .startUnit tag n p v => some ⟨tag, .command (.startUnit n p v)⟩
  | .abortUnit tag n => some ⟨tag, .command (.abortUnit n)⟩
  | .clearNestAlert tag n => some ⟨tag, .command (.clearNestAlert n)⟩
  | .clearFault tag => some ⟨tag, .command .clearFault⟩
  | .resetPart tag => some ⟨tag, .command .resetPart⟩
  | .setNotices tag ks => some ⟨tag, .command (.setNotices ks)⟩
  | .clearNotices tag ks => some ⟨tag, .command (.clearNotices ks)⟩
  | .setAlerts tag ks => some ⟨tag, .command (.setAlerts ks)⟩
  | .clearAlerts tag ks => some ⟨tag, .command (.clearAlerts ks)⟩
  | .ackAlerts tag ks => some ⟨tag, .command (.ackAlerts ks)⟩
  | .readStatus tag => some ⟨tag, .command .readStatus⟩
  | .readNest tag n => some ⟨tag, .command (.readNest n)⟩
  | .readLot tag => some ⟨tag, .command .readLot⟩
  | .readFaults tag => some ⟨tag, .command .readFaults⟩
  | .unknownCommand tag _ => some ⟨tag, .unknown⟩
  | _ => none

/-- The state in which a mode has changed, with its MODE_CHANGED event handed over, and nothing else (R171). -/
def State.withMode (s : State) (mode : Mode) (cause : ModeCause) : State :=
  (s.setRun { s.run with mode := mode }).setPort (s.port.handOver (.modeChanged s.run.mode mode cause))

/-- A debounced edge of an input to `level` has fallen due: the input has left its debounced state for at least the debounce time (R1). -/
def EdgeDue (i : Input) (level : Bool) (s : State) : Prop :=
  ∃ t, s.inputs.get i = ⟨level, !level, some t⟩ ∧ ms s.tables.config.debounce ≤ t

/-- The state in which the hold of an input has ended at `level` (R1). -/
def State.withEdge (s : State) (i : Input) (level : Bool) : State := s.setInputs (s.inputs.set i ⟨level, level, none⟩)

/-- The autostart of a nest finds its conditions (R10): mode RUN, setting on, alert flag clear, lot open, serials left. -/
abbrev AutostartHolds (s : State) (n : NestId) : Prop :=
  s.run.mode = .run ∧ s.tables.config.autostart[n] = true ∧ s.lot.alerts[n] = false ∧ s.lot.isOpen = true ∧ s.lot.exhausted = false

/-! ## Invariants of the whole part -/

/-- The queues hold no more than their places: Result Queue 48 (R193), Command Buffer 4 (R191), Label Queue 32 (R163), Fault History 16
(R181). -/
abbrev QueuesBounded (s : State) : Prop :=
  s.port.results.length ≤ 48 ∧ s.port.buffer.length ≤ 4 ∧ s.marker.labels.length ≤ 32 ∧ s.run.history.length ≤ 16

/-- The sorting outputs of a nest are never both high, and are low outside DISPOSED (section 1.1, R16). -/
abbrev OutputsSorted (s : State) : Prop :=
  ∀ n, ¬((s.nest n).pass = true ∧ (s.nest n).reject = true) ∧
    ((s.nest n).pass = true ∨ (s.nest n).reject = true → (s.nest n).state = .disposed)

/-- The nest states in which a nest holds a Unit Record (R5). -/
def NestState.holdsUnit : NestState → Bool
  | .testing | .finishing | .disposing | .disposed => true
  | .empty | .loaded => false

/-- A nest holds a Unit Record exactly in TESTING, FINISHING, DISPOSING and DISPOSED (R5). -/
abbrev RecordsHeld (s : State) : Prop := ∀ n, (s.nest n).record.isSome = (s.nest n).state.holdsUnit

/-- The number of records in the Window Store's four conditions (R77). -/
def Store.total (x : Store) : Nat :=
  x.free + x.guardHold.length + x.judgeQueue.length + x.computing.toList.length

/-- The free records and the records in the three other conditions always number 12 together (R77). -/
abbrev StoreConserved (s : State) : Prop := s.store.total = 12

/-- Guard Hold is in ascending order of last frame (R78). -/
abbrev HoldAscending (s : State) : Prop := s.store.guardHold.Pairwise fun v w => v.lastFrame ≤ w.lastFrame

/-- The pairs held by the four nests. -/
def heldPairs (s : State) : Nat := (nestIds.map fun n => (s.nest n).pairs.length).sum

/-- The shared places of a nest follow its step phase (R47, R51, R65, R66, R76): outside TESTING there is no phase; a nest holds pairs
only in OPEN_WAIT, MEASURE and CLOSE_WAIT; a nest in the Quiet Request Queue runs a quiet step, and one in the loud-wait set a loud
step, in GATE_WAIT; the quiet holder runs a quiet step, and a nest in the loud-past set a loud step, past GATE_WAIT; a nest in the
Allocation Queue is in ALLOC_WAIT and asks for the pairs of its step; a nest in the close-wait list is in CLOSE_WAIT; and no nest stands
twice in a queue or in the close-wait list. -/
structure PlacesFollowPhase (s : State) : Prop where
  noPhase : ∀ n, (s.nest n).state ≠ .testing → (s.nest n).phase = none
  pairs : ∀ n, (s.nest n).pairs ≠ [] →
    (s.nest n).phase = some .openWait ∨ (s.nest n).phase = some .measure ∨ (s.nest n).phase = some .closeWait
  quiet : ∀ n ∈ s.arbiter.queue, (s.nest n).phase = some .gateWait ∧ ∃ st, (s.nest n).step = some st ∧ st.cls = .quiet
  loud : ∀ n, s.arbiter.loudWait[n] = true → (s.nest n).phase = some .gateWait ∧ ∃ st, (s.nest n).step = some st ∧ st.cls = .loud
  holder : ∀ n, s.arbiter.holder = some n →
    (s.nest n).phase.isSome = true ∧ (s.nest n).phase ≠ some .gateWait ∧ ∃ st, (s.nest n).step = some st ∧ st.cls = .quiet
  loudPast : ∀ n, s.arbiter.loudPast[n] = true →
    (s.nest n).phase.isSome = true ∧ (s.nest n).phase ≠ some .gateWait ∧ ∃ st, (s.nest n).step = some st ∧ st.cls = .loud
  alloc : ∀ e ∈ s.bank.queue, (s.nest e.1).phase = some .allocWait ∧ ∃ st, (s.nest e.1).step = some st ∧ st.pairs.length = e.2
  close : ∀ n ∈ s.store.closeWait, (s.nest n).phase = some .closeWait
  quietOnce : s.arbiter.queue.Nodup
  allocOnce : (s.bank.queue.map (·.1)).Nodup
  closeOnce : s.store.closeWait.Nodup

/-- The free count plus the pairs held by all nests equals 96 (R65). -/
abbrev PairsConserved (s : State) : Prop := s.bank.free + heldPairs s = 96

/-- The validation mark says that the tables pass validation, and a part in a running mode carries it (R173, R175). -/
abbrev RunningValidated (s : State) : Prop :=
  (s.run.mark = true → validate s.tables = none) ∧ (s.run.mode.running = true → s.run.mark = true)

/-- While a nest holds quiet, no nest runs a loud step past the loud gate (R49, R51). -/
abbrev QuietAlone (s : State) : Prop := s.arbiter.holder.isSome = true → ∀ n : NestId, s.arbiter.loudPast[n] = false

/-- The pass count is the number of PASS outcomes in the rolling window (R149). -/
abbrev PassesCounted (s : State) : Prop := s.lot.passCount = s.lot.outcomes.count true

/-- The number of stored findings of a pair (R4). -/
def UnitRecord.stored (r : UnitRecord) (k : FindingKind) (o : FindingOutcome) : Nat :=
  (r.findings.filter fun f => decide (f.kind = k) && decide (f.outcome = o)).length

/-- The relation of R121 between the findings list, the overflow rows, the overflow count and the tally, and the two bounds of the list:
at most 16 entries, none sharing segment, step and figure. -/
def UnitRecord.Consistent (r : UnitRecord) : Prop :=
  (∀ k o, r.tally.get k o = r.stored k o + (r.rows.map fun x => x.counts.get k o).sum) ∧
    r.overflow = (r.rows.map fun x => x.counts.total).sum ∧ r.findings.length ≤ 16 ∧
    r.findings.Pairwise fun f g => ¬(f.segment = g.segment ∧ f.step = g.step ∧ f.kind = g.kind)

/-- The level in tenths of a dBFS of an exact quantity: within half a unit of it, kept within −1500 to +600 (R104, R106). -/
def RoundsTo (v : Int) (x : ℝ) : Prop := |(v : ℝ) - max (-1500) (min 600 x)| ≤ 1 / 2

end Sys2Proof.Machine
end

