-- ==== Sys2Proof/Certificates/Slice0/Obligations.lean ====
section
/-! DEFINITION. The statements for the provers. `settle u` is the state `u` with the consequences that the spec places in the same event
(log entry 7), and is `u` itself where none is due (`Obligations.EventEndsInItsEffect`). -/

open Sys2Proof Sys2Proof.Machine

/-! ## The step and the end of an event -/

/-- A step takes the command at the front of the queue and runs it with the queue's rest; on an empty queue the part idles (log entry 2). -/
def Obligations.StepRunsFrontCommand : Prop :=
  (∀ (c : Instr) (rest : List Instr) (s : State), step (s.setPending (c :: rest)) = exec c (s.setPending rest)) ∧
    ∀ s : State, s.pending = [] → step s = .next s

/-- Every command of the table answers a next state in every state, and leaves the queue of waiting commands to the step. For a command whose
event cannot occur in the state this is the model's choice: its row answers the state unchanged (log entry 8, DESIGN CHOICE). What each
command does is said by the statements about it. -/
def Obligations.EveryCommandCompletes : Prop :=
  ∀ (i : Instr) (s : State), ∃ t, exec i s = .next t ∧ t.pending = s.pending

/-- Where no consequence is due an event ends in its own effect, and where one is due it is taken first; and where nothing has fallen due
the flush before a frame event changes nothing (log entries 6 and 7). -/
def Obligations.EventEndsInItsEffect : Prop :=
  (∀ u : State, nextInternal u = none → settle u = u) ∧
    (∀ u v : State, nextInternal u = some v → settle u = settleWith 255 v) ∧
    ∀ s : State, NothingDue s → flush s = s

/-- With an empty Command Buffer, the consequences within an event leave the inputs, the tables, the Converter Port, the sums and streams
of the Guard Monitor, the fault state and the link of the Station Port as they are (log entry 7). -/
def Obligations.ConsequencesLeaveTheOuterBlocks : Prop :=
  ∀ s : State, s.port.buffer = [] →
    (settle s).inputs = s.inputs ∧ (settle s).tables = s.tables ∧ (settle s).conv = s.conv ∧ (settle s).pending = s.pending ∧
    ({ (settle s).guard with watch := s.guard.watch } : Guard) = s.guard ∧
    ({ (settle s).run with mode := s.run.mode } : RunControl) = s.run ∧
    (settle s).port.buffer = [] ∧ (settle s).port.assembly = s.port.assembly ∧ (settle s).port.sending = s.port.sending ∧
    (settle s).port.upstream = s.port.upstream ∧ (settle s).port.holdOff = s.port.holdOff ∧
    (settle s).port.noticeEnable = s.port.noticeEnable ∧ (settle s).port.alertEnable = s.port.alertEnable ∧
    (settle s).port.badFrames = s.port.badFrames ∧ (settle s).port.badMessages = s.port.badMessages ∧
    (settle s).port.discarded = s.port.discarded

/-! ## Reset -/

/-- POWER_ON: what the release of RESET_N leaves, block by block. -/
def Obligations.PowerOnState : Prop :=
  ∀ (l : Levels) (s : State), ∃ t, exec (.powerOn l) s = .next t ∧
    (∀ n : NestId, t.inputs.present[n] = ⟨l.present[n], l.present[n], none⟩ ∧ t.inputs.clamp[n] = ⟨l.clamp[n], l.clamp[n], none⟩) ∧
    t.inputs.engEnable = ⟨l.engEnable, l.engEnable, none⟩ ∧ t.inputs.alertClr = ⟨l.alertClr, l.alertClr, none⟩ ∧
    t.inputs.markerReady = ⟨l.markerReady, l.markerReady, none⟩ ∧
    (∀ n : NestId, (t.nest n).state = (if l.present[n] && l.clamp[n] then .loaded else .empty) ∧ (t.nest n).record = none ∧
      (t.nest n).phase = none ∧ (t.nest n).gone = false ∧ (t.nest n).stall = none ∧ (t.nest n).pass = false ∧
      (t.nest n).reject = false ∧ (t.nest n).pairs = [] ∧ (t.nest n).synth.phase = 0 ∧ (t.nest n).synth.inc = 0 ∧
      (t.nest n).synth.amplitude = 0) ∧
    t.arbiter = ⟨[], none, Vector.replicate 4 false, Vector.replicate 4 false⟩ ∧
    t.permit.held = false ∧ t.permit.latch = false ∧ t.permit.holdTimer = none ∧ t.permit.waitTimer = none ∧ t.permit.cycle = .idle ∧
    t.permit.pendingOut = false ∧
    t.bank = ⟨96, []⟩ ∧ t.store = ⟨12, [], [], none, []⟩ ∧
    t.guard.sum0 = 0 ∧ t.guard.sum1 = 0 ∧ t.guard.mark = false ∧ t.guard.last = none ∧ t.guard.normal = ⟨0, false, none⟩ ∧
    t.guard.quiet = ⟨0, false, none⟩ ∧ t.guard.watch = [] ∧
    t.lot.isOpen = false ∧ t.lot.lotId = [] ∧ t.lot.serialPrefix = [] ∧ t.lot.nextSerial = 0 ∧ t.lot.exhausted = false ∧
    t.lot.counts = ⟨⟨0, false⟩, ⟨0, false⟩, ⟨0, false⟩, Vector.replicate 16 ⟨0, false⟩, Vector.replicate 4 ⟨0, false⟩,
      Vector.replicate 4 ⟨0, false⟩, ⟨0, false⟩, ⟨0, false⟩, ⟨0, false⟩, ⟨0, false⟩⟩ ∧
    t.lot.settings = ⟨32, 0, 0⟩ ∧ t.lot.outcomes = [] ∧ t.lot.passCount = 0 ∧ t.lot.yieldLow = false ∧
    t.lot.fails = Vector.replicate 4 0 ∧ t.lot.alerts = Vector.replicate 4 false ∧
    t.marker.labels = [] ∧ t.marker.send = .idle ∧ t.marker.retry = 0 ∧ t.marker.replyTimer = none ∧ t.marker.hold = false ∧
    t.run = ⟨.standby, false, none, Vector.replicate 5 false, none, [], 0⟩ ∧
    t.port.buffer = [] ∧ t.port.results = [] ∧ t.port.waiting = none ∧ t.port.assembly = [] ∧ t.port.sending = [] ∧
    t.port.holdOff = false ∧ t.port.noticeEnable = Vector.replicate 8 false ∧ t.port.alertEnable = Vector.replicate 8 false ∧
    t.port.alertPending = Vector.replicate 8 false ∧ t.port.unreported = 0 ∧ t.port.badFrames = 0 ∧ t.port.badMessages = 0 ∧
    t.port.discarded = 0 ∧ t.port.dropped = 0 ∧
    t.conv.inSync = false ∧ t.conv.frameNumber = 0 ∧ t.conv.drive = Vector.replicate 4 0 ∧
    t.tables.segments = Vector.replicate 128 none ∧ t.tables.plans = Vector.replicate 8 ⟨[], 0, []⟩ ∧
    t.tables.masks = Vector.replicate 16 none ∧ t.tables.grades = Vector.replicate 16 none ∧
    t.tables.templates = Vector.replicate 8 none ∧ t.tables.calibration = Vector.replicate 4 none ∧
    t.tables.config = ⟨10, Vector.replicate 4 false, Vector.replicate 4 0, .solo, -200, 100, 2000, .stop, .stop, .stop, .stop, 0, 2, -250,
      -400, -900, -900, Vector.replicate 4 .off, 32, 0, 0, 9600, 50, 10⟩ ∧
    t.tables.taps = Vector.replicate 8 .none ∧ t.pending = s.pending

/-- The invariants below hold of the state right after reset. -/
def Obligations.ResetMeetsTheInvariants : Prop :=
  StoreConserved State.reset ∧ HoldAscending State.reset ∧ RecordsHeld State.reset ∧ PlacesFollowPhase State.reset ∧
    OutputsSorted State.reset ∧ PairsConserved State.reset ∧ QueuesBounded State.reset ∧ RunningValidated State.reset ∧
    QuietAlone State.reset ∧ PassesCounted State.reset

/-! ## Invariants that every step keeps -/

/-- Every step keeps the Window Store's 12 records, a record always standing in exactly one of the four conditions; and every step keeps Guard
Hold in ascending order of last frame. -/
def Obligations.StepKeepsWindowStore : Prop :=
  (∀ s t : State, StoreConserved s → step s = .next t → StoreConserved t) ∧
    ∀ s t : State, HoldAscending s → step s = .next t → HoldAscending t

/-- Every step keeps a Unit Record in exactly the nests in TESTING, FINISHING, DISPOSING and DISPOSED. -/
def Obligations.StepKeepsUnitRecords : Prop := ∀ s t : State, RecordsHeld s → step s = .next t → RecordsHeld t

/-- Every step keeps each nest's places in the shared blocks in line with its step phase: the places of the Quiet Arbiter, the quiet holder and
the loud-past set among them, its pairs, and its entries in the Allocation Queue and the close-wait list, in which it stands at most once. -/
def Obligations.StepKeepsPlaces : Prop := ∀ s t : State, PlacesFollowPhase s → step s = .next t → PlacesFollowPhase t

/-- Every step keeps the sorting outputs: never both high, and low outside DISPOSED. -/
def Obligations.StepKeepsSortingOutputs : Prop :=
  ∀ s t : State, PlacesFollowPhase s → OutputsSorted s → step s = .next t → OutputsSorted t

/-- Every step keeps the free pairs and the held pairs at 96 together. -/
def Obligations.StepKeepsPairs : Prop :=
  ∀ s t : State, PlacesFollowPhase s → PairsConserved s → step s = .next t → PairsConserved t

/-- Every step keeps the Result Queue, the Command Buffer, the Label Queue and the Fault History within their places. -/
def Obligations.StepKeepsQueueBounds : Prop := ∀ s t : State, QueuesBounded s → step s = .next t → QueuesBounded t

/-- Every step keeps a part in a running mode validated: the mark stands only for tables that pass every check of validation. -/
def Obligations.StepKeepsRunningValidated : Prop := ∀ s t : State, RunningValidated s → step s = .next t → RunningValidated t

/-- Every step keeps quiet: while a nest holds quiet, no loud step is past the loud gate. -/
def Obligations.StepKeepsQuiet : Prop := ∀ s t : State, QuietAlone s → step s = .next t → QuietAlone t

/-- Every step keeps the pass count equal to the number of PASS outcomes in the rolling window. -/
def Obligations.StepKeepsPassCount : Prop := ∀ s t : State, PassesCounted s → step s = .next t → PassesCounted t

/-! ## Inputs and the unit lifecycle (chapter 1) -/

/-- INPUT_HOLD_START and DEBOUNCED_EDGE: a hold starts when the level leaves the debounced state and is abandoned when it returns; a hold
that has lasted the debounce time gives the debounced state the new level; an edge of ALERT_CLR to high clears the pending set. -/
def Obligations.InputHoldsAndEdges : Prop :=
  (∀ (i : Input) (level : Bool) (s : State), (∀ t, (s.inputs.get i).hold = some t → t < s.tables.config.debounce * 96) →
    exec (.inputHoldStart i level) s = .next (s.setInputs (s.inputs.set i
      ⟨level, (s.inputs.get i).debounced, if level = (s.inputs.get i).debounced then none else some ((s.inputs.get i).hold.getD 0)⟩)) ∧
    exec (.debouncedEdge i) s = .next s) ∧
  (∀ (i : Input) (level : Bool) (s : State), i = .engEnable ∨ i = .markerReady ∨ (i = .alertClr ∧ level = false) → EdgeDue i level s →
    exec (.debouncedEdge i) s = .next (settle (s.withEdge i level))) ∧
  ∀ s : State, EdgeDue .alertClr true s →
    exec (.debouncedEdge .alertClr) s = .next (settle ((s.withEdge .alertClr true).setPort
      { s.port with alertPending := Vector.replicate 8 false }))

/-- The fixture events. A rising edge that makes a nest present and clamped delivers LOAD: an EMPTY nest becomes LOADED and its autostart is
tried, and any other nest is left as it is; a rising edge that does not is no event for the nest. At a PRESENT-fall or a CLAMP-fall a
LOADED nest becomes EMPTY and a unit under test is aborted with reason REMOVED; at a PRESENT-fall a nest in DISPOSING notes that its unit
has gone, and a nest in DISPOSED becomes EMPTY. A nest that enters EMPTY while it is present and clamped goes on to LOADED in the same event,
with its autostart tried. -/
def Obligations.FixtureEvents : Prop :=
  (∀ (n : NestId) (i : Input) (s : State), i = .present n ∨ i = .clamp n → EdgeDue i true s →
    (presentAndClamped (s.withEdge i true) n = false ∨ (s.nest n).state ≠ .empty →
      exec (.debouncedEdge i) s = .next (settle (s.withEdge i true))) ∧
    (presentAndClamped (s.withEdge i true) n = true → (s.nest n).state = .empty → ¬AutostartHolds s n →
      exec (.debouncedEdge i) s = .next (settle ((s.withEdge i true).modNest n fun x => { x with state := .loaded }))) ∧
    (presentAndClamped (s.withEdge i true) n = true → (s.nest n).state = .empty → AutostartHolds s n →
      exec (.debouncedEdge i) s = .next (settle (startUnit n s.tables.config.defaultPlan[n] none
        ((s.withEdge i true).modNest n fun x => { x with state := .loaded }))))) ∧
  (∀ (n : NestId) (i : Input) (s : State), i = .present n ∨ i = .clamp n → EdgeDue i false s →
    ((s.nest n).state = .empty ∨ (i = .clamp n ∧ ((s.nest n).state = .disposing ∨ (s.nest n).state = .disposed)) →
      exec (.debouncedEdge i) s = .next (settle (s.withEdge i false))) ∧
    ((s.nest n).state = .loaded ∨ (i = .present n ∧ (s.nest n).state = .disposed) →
      exec (.debouncedEdge i) s = .next (settle ((s.withEdge i false).modNest n fun x =>
        { x with
          state := .empty, phase := none, record := none, gone := false, stall := none, pass := false, reject := false
          step := none }))) ∧
    ((s.nest n).state = .testing ∨ (s.nest n).state = .finishing →
      exec (.debouncedEdge i) s = .next (settle (abortUnit n .removed (s.withEdge i false)))) ∧
    (i = .present n → (s.nest n).state = .disposing →
      exec (.debouncedEdge i) s = .next (settle ((s.withEdge i false).modNest n fun x => { x with gone := true })))) ∧
  ∀ (n : NestId) (s : State),
    let e := s.setNest n
      { s.nest n with
        state := .empty, phase := none, record := none, gone := false, stall := none, pass := false, reject := false, step := none }
    (presentAndClamped s n = false → enterEmpty n s = e) ∧
    (presentAndClamped s n = true → ¬AutostartHolds s n → enterEmpty n s = e.modNest n fun x => { x with state := .loaded }) ∧
    (presentAndClamped s n = true → AutostartHolds s n →
      enterEmpty n s = startUnit n s.tables.config.defaultPlan[n] none (e.modNest n fun x => { x with state := .loaded }))

/-- A unit start: the Unit Record's start values, TESTING with the phase accumulator at 0 and both outputs low, the serial taken from
the lot unless a prior serial is given, the started count incremented, and nothing else but the nest's way to its first step. -/
def Obligations.UnitStart : Prop :=
  ∀ (n : NestId) (plan : Nat) (prior : Option Nat) (s : State),
    let u := startUnit n plan prior s
    let start := makeStep s.tables (entrySegment (planAt s.tables plan) 0) 0 false true
    (u.nest n).state = .testing ∧
    (u.nest n).record = some
      { serial := prior.getD s.lot.nextSerial, prior := prior, plan := plan, findings := [], overflow := 0, rows := []
        tally := Vector.replicate 30 0, retriesUsed := 0, pending := 0, retryList := [], repeats := [], position := .at_ 0 0
        disposition := none, abort := none } ∧
    (u.nest n).synth.phase = 0 ∧ (u.nest n).synth.inc = start.inc ∧ (u.nest n).step = some start ∧ (u.nest n).pass = false ∧
    (u.nest n).reject = false ∧ (u.nest n).gone = false ∧ (u.nest n).stall = none ∧ (u.nest n).pairs = (s.nest n).pairs ∧
    ((u.nest n).phase = some .settle ∨ (u.nest n).phase = some .gateWait) ∧
    (∀ m, m ≠ n → u.nest m = s.nest m) ∧
    u.lot = { s.lot with
      counts := { s.lot.counts with started := s.lot.counts.started.bump }
      nextSerial := if prior = none ∧ s.lot.nextSerial < 99999999 then s.lot.nextSerial + 1 else s.lot.nextSerial
      exhausted := s.lot.exhausted || (prior.isNone && decide (99999999 ≤ s.lot.nextSerial)) } ∧
    u.inputs = s.inputs ∧ u.disposing = s.disposing ∧ u.arbiter.holder = s.arbiter.holder ∧ u.permit = s.permit ∧ u.bank = s.bank ∧
    u.store = s.store ∧ u.guard = s.guard ∧ u.marker = s.marker ∧ u.run = s.run ∧ u.port = s.port ∧ u.conv = s.conv ∧
    u.tables = s.tables ∧ u.pending = s.pending

/-- START_UNIT: the refusals in the order of their table, and the start with its reply. ABORT_UNIT: refused for a nest above 3 and for a nest
without a unit under test, and otherwise an abort with reason COMMANDED. -/
def Obligations.UnitCommands : Prop :=
  (∀ (tag : Byte) (nest plan : Nat) (prior : Option Text) (s : State), Serving s →
    (3 < nest ∨ 7 < plan ∨ (planAt s.tables plan).entries = [] ∨ (∃ t, prior = some t ∧ ¬(t.length = 8 ∧ t.all isDigit = true)) →
      exec (.startUnit tag nest plan prior) s = .next (settle (s.withReply tag .badArgument .none))) ∧
    ∀ (n : NestId), n.val = nest → plan ≤ 7 → (planAt s.tables plan).entries ≠ [] →
      (∀ t, prior = some t → t.length = 8 ∧ t.all isDigit = true) →
      exec (.startUnit tag nest plan prior) s = .next (settle (
        if s.run.mode ≠ .run then s.withReply tag .wrongMode .none
        else if (s.nest n).state ≠ .loaded ∧ ¬((s.nest n).state = .disposed ∧ presentAndClamped s n = true) then
          s.withReply tag .nestNotReady .none
        else if s.lot.alerts[n] = true then s.withReply tag .nestAlert .none
        else if s.lot.isOpen = false then s.withReply tag .noLot .none
        else if s.lot.exhausted = true ∧ prior = none then s.withReply tag .serialExhausted .none
        else (startUnit n plan (prior.map digitsValue) s).withReply tag .ok
          (.started ((prior.map digitsValue).getD s.lot.nextSerial) prior.isSome)))) ∧
  (∀ (tag : Byte) (nest : Nat) (s : State), Serving s →
    (3 < nest → exec (.abortUnit tag nest) s = .next (settle (s.withReply tag .badArgument .none))) ∧
    ∀ n : NestId, n.val = nest →
      exec (.abortUnit tag nest) s = .next (settle (
        if (s.nest n).state = .testing ∨ (s.nest n).state = .finishing then (abortUnit n .commanded s).withReply tag .ok .none
        else s.withReply tag .nestNotReady .none)))

/-- An abort of a unit under test releases every claim of R19, frees its records as R20 says, and enters DISPOSING as R21 says. -/
def Obligations.AbortReleasesEveryClaim : Prop :=
  ∀ (n : NestId) (reason : AbortReason) (s : State), (s.nest n).state = .testing ∨ (s.nest n).state = .finishing →
    let mine := fun w : WindowRecord => w.nest == n
    let freed := (s.store.guardHold.filter mine).length + (s.store.judgeQueue.filter mine).length
    abortUnit n reason s =
      { s with
        nests := s.nests.set n
          { s.nest n with
            state := .disposing, phase := none, step := none, pairs := [], stall := some ⟨0, false⟩
            gone := !s.inputs.present[n].debounced
            record := (s.nest n).record.map fun r =>
              { r with abort := some reason, retryList := [], repeats := [], pending := r.pending - freed } }
        disposing := s.disposing ++ [n]
        arbiter :=
          { queue := s.arbiter.queue.filter fun m => !(m == n)
            holder := if s.arbiter.holder = some n then none else s.arbiter.holder
            loudPast := s.arbiter.loudPast.set n false
            loudWait := s.arbiter.loudWait.set n false }
        bank := { free := s.bank.free + (s.nest n).pairs.length, queue := s.bank.queue.filter fun e => !(e.1 == n) }
        store := { s.store with
          free := s.store.free + freed
          guardHold := s.store.guardHold.filter fun w => !(mine w)
          judgeQueue := s.store.judgeQueue.filter fun w => !(mine w)
          closeWait := s.store.closeWait.filter fun m => !(m == n) }
        guard := { s.guard with watch := s.guard.watch.filter fun e => !(e.nest == n) } }

/-- RETRY_START and GRADING: a nest in FINISHING with no window pending starts a retry of the head key of its Retry List, or, with an
empty Retry List, takes the disposition of the first rule that holds and enters DISPOSING. -/
def Obligations.FinishingMoves : Prop :=
  ∀ (n : NestId) (r : UnitRecord) (s : State), (s.nest n).state = .finishing → (s.nest n).record = some r → r.pending = 0 →
    (∀ k rest, r.retryList = k :: rest →
      exec (.retryStart n) s = .next (settle (startStep n (makeStep s.tables k.segment k.step true true)
        (s.setNest n { s.nest n with
          state := .testing
          record := some { r with
            retryList := rest, retriesUsed := r.retriesUsed + 1, position := .retry k.segment k.step } })))) ∧
    ∀ g, r.retryList = [] → (s.tables.grades.toList.filterMap id).find? (fun g => g.conditions.all (Condition.holds r n)) = some g →
      exec (.grading n) s = .next (settle ((s.setNest n { s.nest n with
          state := .disposing, phase := none, step := none, gone := false, stall := some ⟨0, false⟩
          record := some { r with
            disposition := some ⟨g.code, g.name, g.bin, g.template, (g.template.map (templateFields s.tables)).getD []⟩ } }).setDisposing
        (s.disposing ++ [n])))

/-- DISPOSAL and ABORTED_DISPOSAL. A graded unit whose window count is 0, with its report slot and its label place available, is counted,
labelled and reported in this order, and sorted by its bin. An aborted unit whose window count is 0, with a report slot available, adds to
the aborted count alone, is reported, and is sorted to REJECT. A nest whose unit has gone
enters EMPTY instead of DISPOSED, with both outputs low. The reservations are tried in the order of entry to DISPOSING: the first nest that
does not wait is disposed of, and those before it are passed over. A nest waits while its window count is not 0, no report slot is available,
or it needs a label place and none is; the rows of a nest that waits change nothing (log entry 8, DESIGN CHOICE). -/
def Obligations.Disposals : Prop :=
  (∀ s : State,
    let waits := fun n : NestId => ∀ r, (s.nest n).state = .disposing → (s.nest n).record = some r →
      r.pending ≠ 0 ∨ 44 ≤ s.port.results.length + s.port.reserved.toNat ∨
        ((∃ d, r.disposition = some d ∧ d.template.isSome = true) ∧ 32 ≤ s.marker.labels.length)
    (∀ n, waits n → exec (.disposal n) s = .next s ∧ exec (.abortedDisposal n) s = .next s) ∧
    ((∀ n ∈ s.disposing, waits n) → reserveNext s = none) ∧
    ∀ front n back, s.disposing = front ++ n :: back → (∀ m ∈ front, waits m) → ¬waits n →
      (∀ r d, (s.nest n).record = some r → r.disposition = some d →
        ∃ u, reserveNext s = some u ∧ exec (.disposal n) s = .next (settle u)) ∧
      ∀ r, (s.nest n).record = some r → r.disposition = none → r.abort.isSome = true →
        ∃ u, reserveNext s = some u ∧ exec (.abortedDisposal n) s = .next (settle u)) ∧
  (∀ (n : NestId) (r : UnitRecord) (d : Disposition) (s : State), (s.nest n).state = .disposing → (s.nest n).record = some r →
    r.pending = 0 → r.disposition = some d → s.port.reserved = false → s.port.results.length < 44 →
    (d.template.isSome = true → s.marker.labels.length < 32) →
    let c := countGraded n r d (s.setPort { s.port with reserved := true })
    let v := { c with
      marker := { s.marker with labels := s.marker.labels ++ (if d.template.isSome then [composeLabel n r d c.lot] else []) }
      port := { c.port with
        reserved := false
        results := c.port.results ++ [.unitReport (unitReport n r (s.nest n).gone)] }
      disposing := s.disposing.filter fun m => !(m == n) }
    exec (.disposal n) s = .next (settle (
      if (s.nest n).gone then enterEmpty n v
      else v.setNest n { s.nest n with
        state := .disposed, stall := none, pass := decide (d.bin = 0), reject := decide (d.bin ≠ 0) }))) ∧
  (∀ (n : NestId) (r : UnitRecord) (s : State), (s.nest n).state = .disposing → (s.nest n).record = some r → r.pending = 0 →
    r.disposition = none → r.abort.isSome = true → s.port.reserved = false → s.port.results.length < 44 →
    let v := { s with
      lot := { s.lot with counts := { s.lot.counts with aborted := s.lot.counts.aborted.bump } }
      port := { s.port with results := s.port.results ++ [.unitReport (unitReport n r (s.nest n).gone)] }
      disposing := s.disposing.filter fun m => !(m == n) }
    exec (.abortedDisposal n) s = .next (settle (
      if (s.nest n).gone then enterEmpty n v
      else v.setNest n { s.nest n with state := .disposed, stall := none, pass := false, reject := true })))

/-- The Label Composer and the UNIT_REPORT. A label joins the renderings of its fields with "|" between each two, keeps the first 120 characters
and sets the truncated flag where there were more. A LITERAL, the lot id and the grade name are rendered as they are, a serial as its prefix
and eight digits, a number in decimal without leading zeros, a nest as N and its digit. A FIGURE field renders the first stored finding of its
kind: "-" where there is none or it has no value, decibels with a sign, a point and the tenths digit, and an impedance in ohms with one
decimal place, rounded. A UNIT_REPORT carries the fields of the Unit Record and the gone flag. -/
def Obligations.LabelsAndReports : Prop :=
  (∀ (n : NestId) (r : UnitRecord) (d : Disposition) (l : LotCounters),
    let text := List.intercalate [124] (d.fields.map (renderField n r d l))
    composeLabel n r d l = ⟨r.serial, n, text.take 120, decide (120 < text.length)⟩) ∧
  (∀ (n : NestId) (r : UnitRecord) (d : Disposition) (l : LotCounters),
    let writes := fun (v : Nat) (t : Text) => t ≠ [] ∧ t.all isDigit = true ∧ digitsValue t = v ∧ (t.head? = some 48 → t = [48])
    let tenths := fun (v : Nat) (t : Text) => ∃ whole, writes (v / 10) whole ∧ t = whole ++ [46, BitVec.ofNat 8 (48 + v % 10)]
    let render := renderField n r d l
    (∀ t, render (.literal t) = t) ∧ render .lot = l.lotId ∧ render .gradeName = d.name ∧
    render .nest = [78, BitVec.ofNat 8 (48 + n.val)] ∧
    (r.serial ≤ 99999999 → ∃ t, render .serial = l.serialPrefix ++ t ∧ t.length = 8 ∧ t.all isDigit = true ∧ digitsValue t = r.serial) ∧
    (d.bin ≤ 7 → writes d.bin (render .bin)) ∧
    (l.counts.graded.value ≤ 16777215 → writes l.counts.graded.value (render .lotCount)) ∧
    ∀ f : Figure,
      ((∀ x ∈ r.findings, x.kind ≠ figureKind f) → render (.figure f) = [45]) ∧
      ∀ front x back, r.findings = front ++ x :: back → (∀ y ∈ front, y.kind ≠ figureKind f) → x.kind = figureKind f →
        (x.value = none → render (.figure f) = [45]) ∧
        ∀ v : Int, x.value = some v →
          (f ≠ .impedance → -1500 ≤ v → v ≤ 600 →
            ∃ t, tenths v.natAbs t ∧ render (.figure f) = (if v < 0 then 45 else 43) :: t) ∧
          (f = .impedance → 0 ≤ v → v ≤ 65535 → tenths ((v.toNat + 5) / 10) (render (.figure f)))) ∧
  ∀ (n : NestId) (r : UnitRecord) (gone : Bool),
    (∀ d, r.disposition = some d → unitReport n r gone =
      { nest := n, serial := r.serial, prior := r.prior, plan := r.plan, graded := true
        disposition := some (d.code, d.name, d.bin, d.template), abort := r.abort, position := none, retriesUsed := r.retriesUsed
        gone := gone, tally := r.tally, overflow := r.overflow, findings := r.findings }) ∧
    (r.disposition = none → unitReport n r gone =
      { nest := n, serial := r.serial, prior := r.prior, plan := r.plan, graded := false, disposition := none, abort := r.abort
        position := some r.position, retriesUsed := r.retriesUsed, gone := gone, tally := r.tally, overflow := r.overflow
        findings := r.findings })

/-- DISPOSAL_STALL: when the stall timer has reached the stall limit (the expiry at exactly the limit is log entry 24, DEDUCED), the fault is
recorded with the nest and the unit's serial, and an action STOP takes a running part to STOPPED, while any other case keeps the mode; a
timer whose expiry has been taken, or that has not reached the limit, raises nothing, so the fault comes once per stay. The detail names
what is unavailable; while both queues have a place it is open (log entry 15, a free value). -/
def Obligations.DisposalStalls : Prop :=
  (∀ (n : NestId) (r : UnitRecord) (t : Nat) (s : State), (s.nest n).state = .disposing → (s.nest n).record = some r →
    (s.nest n).stall = some ⟨t, false⟩ → s.tables.config.stallLimit * 1000 * 96 ≤ t →
    let needs := ∃ d k, r.disposition = some d ∧ d.template = some k
    let a := actionOf s.tables.config.actionStall
    ∃ d : StallDetail,
      (s.port.reserved = false → 44 ≤ s.port.results.length → ¬needs ∨ s.marker.labels.length < 32 → d = .resultQueue) ∧
      (s.port.reserved = false → s.port.results.length < 44 → needs → 32 ≤ s.marker.labels.length → d = .labelQueue) ∧
      (s.port.reserved = false → 44 ≤ s.port.results.length → needs → 32 ≤ s.marker.labels.length → d = .both) ∧
      let recorded := recordFault .disposalStall (.stall d) (some n) (some r.serial) none none a
        (s.setNest n { s.nest n with stall := some ⟨t, true⟩ })
      (a = .continue_ ∨ s.run.mode = .standby ∨ s.run.mode = .stopped → exec (.disposalStall n) s = .next (settle recorded)) ∧
      (a = .stop → s.run.mode = .run ∨ s.run.mode = .holding ∨ s.run.mode = .held →
        exec (.disposalStall n) s = .next (settle (leaveRunning .stopped (.fault .disposalStall) recorded)))) ∧
  ∀ (n : NestId) (t : Nat) (taken : Bool) (s : State), (s.nest n).stall = some ⟨t, taken⟩ →
    taken = true ∨ t < s.tables.config.stallLimit * 1000 * 96 → exec (.disposalStall n) s = .next s

/-! ## Plans, steps and tones (chapter 2) -/

/-- The increment table, the drive amplitudes and the built-in sine table. In the increment table each entry is the nearest integer to the formula, the entries lie between the table's ends, the tone departs from its
nominal frequency by less than 0.6 parts per million, and the selected entries are those of the table. The target amplitude is the nearest
integer to its formula at every level, with the selected values of its table. The sample a × sin(2π θ / 2^32), and the same of the cosine, is
an integer within half a unit of the exact value, up to the 2^-40 that the evaluation of the table may add (log entry 12, UNVERIFIED). -/
def Obligations.IncrementsAndAmplitudes : Prop :=
  ((∀ c : Nat, c ≤ 480 →
    |(increment c : ℝ) - 20 * (2 : ℝ) ^ ((c : ℝ) / 48) * 2 ^ 32 / 96000| ≤ 1 / 2 ∧ 894785 ≤ increment c ∧ increment c ≤ 916259690 ∧
    |(increment c : ℝ) * 96000 / 2 ^ 32 - 20 * (2 : ℝ) ^ ((c : ℝ) / 48)| < 6 / 10 ^ 7 * (20 * (2 : ℝ) ^ ((c : ℝ) / 48))) ∧
  [0, 48, 96, 144, 192, 240, 288, 336, 384, 432, 480].map increment =
    [894785, 1789570, 3579139, 7158279, 14316558, 28633115, 57266231, 114532461, 229064922, 458129845, 916259690]) ∧
  ((∀ level : Int, |(driveAmplitude level : ℝ) - 8388607 * (10 : ℝ) ^ ((level : ℝ) / 200)| ≤ 1 / 2) ∧
    [0, -200, -400, -600].map driveAmplitude = [8388607, 838861, 83886, 8389]) ∧
  ∀ a θ : Nat, a < 2 ^ 24 →
    |(sineOf a θ : ℝ) - a * Real.sin (2 * Real.pi * θ / 2 ^ 32)| ≤ 1 / 2 + 1 / 2 ^ 40 ∧
    |(cosineOf a θ : ℝ) - a * Real.cos (2 * Real.pi * θ / 2 ^ 32)| ≤ 1 / 2 + 1 / 2 ^ 40

/-- A step start fixes the settings of its segment and step, and by its class the step enters SETTLE, joins the tail of the Quiet Request
Queue, or passes or waits at the loud gate; a step that meets GATE_WAIT starts its ramp from 0. -/
def Obligations.StepStart : Prop :=
  (∀ (t : Tables) (i j : Nat) (retry muted : Bool) (g : Segment), (t.segments[i]?).join = some g →
    let st := makeStep t i j retry muted
    st.segment = i ∧ st.step = j ∧ st.code = (g.startCode + j * g.stepSize).toNat ∧ st.inc = BitVec.ofNat 32 (increment st.code) ∧
    st.target = driveAmplitude g.level ∧ st.level = g.level ∧ st.ramp = g.rampFrames ∧ st.settle = g.settleFrames ∧
    st.measure = g.measureFrames ∧ st.trim = g.trim ∧ st.judge = g.judge ∧ st.hlo = g.hlo ∧ st.hhi = g.hhi ∧ st.retry = retry ∧
    st.cls = (if g.quiet then .quiet else if t.config.quietCeiling < g.level then .loud else .neutral) ∧
    st.fromZero = (muted || g.quiet || decide (t.config.quietCeiling < g.level))) ∧
  ∀ (n : NestId) (st : Step) (s : State),
    let x := { s.nest n with
      phase := some .gateWait, step := some st, count := 0, synth := { (s.nest n).synth with inc := st.inc } }
    let settled := { x with
      phase := some .settle
      synth := { x.synth with rampStart := if st.fromZero then 0 else x.synth.amplitude } }
    startStep n st s =
      match st.cls with
      | .neutral => s.setNest n settled
      | .quiet => (s.setNest n x).setArbiter { s.arbiter with queue := s.arbiter.queue ++ [n] }
      | .loud =>
        if s.arbiter.holder = none ∧ (s.arbiter.queue = [] ∨ permitAvailable s = false) then
          (s.setNest n settled).setArbiter
            { s.arbiter with loudPast := s.arbiter.loudPast.set n true, loudWait := s.arbiter.loudWait.set n false }
        else (s.setNest n x).setArbiter { s.arbiter with loudWait := s.arbiter.loudWait.set n true }

/-- The plan walk. At the end of a step at AT (e, j) it goes to the next step of the segment, or to the entry that `takeEntry` reaches from
e + 1, or to END and FINISHING; at the end of a retry, to END and FINISHING. An entry beyond the plan ends the walk; a SEGMENT entry is
taken at step 0; a REPEAT entry without a context pushes one with its repeat count and goes back by its back count; one with a context
counts it down and goes back again, or, where the count reaches 0, pops it and goes on past the REPEAT. So the block of a REPEAT with repeat
count N, whatever its back count and whatever contexts stand below its own, runs N + 1 times in all: when the walk reaches the REPEAT it returns
to the block's first entry N times, and the next time goes on past the REPEAT with the contexts as they were. -/
def Obligations.PlanWalk : Prop :=
  (∀ (n : NestId) (muted : Bool) (r : UnitRecord) (s : State), (s.nest n).record = some r →
    let plan := planAt s.tables r.plan
    let finished := fun stack => s.setNest n { s.nest n with
      state := .finishing, phase := none, step := none, record := some { r with repeats := stack, position := .end_ } }
    let started := fun stack e j =>
      startStep n (makeStep s.tables (entrySegment plan e) j false muted)
        (s.setNest n { s.nest n with record := some { r with repeats := stack, position := .at_ e j } })
    (∀ i k, r.position = .retry i k → advance n muted s = finished r.repeats) ∧
    ∀ e j i g, r.position = .at_ e j → plan.entries[e]? = some (.segment i) → (s.tables.segments[i]?).join = some g →
      (j + 1 < g.stepCount → advance n muted s = started r.repeats e (j + 1)) ∧
      (g.stepCount ≤ j + 1 → ∀ stack, takeEntry plan.entries walkFuel r.repeats (e + 1) = (.end_, stack) →
        advance n muted s = finished stack) ∧
      (g.stepCount ≤ j + 1 → ∀ stack e', takeEntry plan.entries walkFuel r.repeats (e + 1) = (.at_ e' 0, stack) →
        advance n muted s = started stack e' 0)) ∧
  (∀ (entries : List PlanEntry) (fuel e : Nat) (stack : List RepeatContext),
    let take := takeEntry entries
    (entries[e]? = none → take (fuel + 1) stack e = (.end_, stack)) ∧
    (∀ i, entries[e]? = some (.segment i) → take (fuel + 1) stack e = (.at_ e 0, stack)) ∧
    ∀ back count, entries[e]? = some (.again back count) →
      ((∀ c ∈ stack, c.entry ≠ e) → take (fuel + 1) stack e = take fuel (stack ++ [⟨e, count⟩]) (e - back)) ∧
      ∀ under above left, stack = under ++ ⟨e, left⟩ :: above → (∀ c ∈ under ++ above, c.entry ≠ e) →
        (2 ≤ left → take (fuel + 1) stack e = take fuel (under ++ ⟨e, left - 1⟩ :: above) (e - back)) ∧
        (left = 1 → take (fuel + 1) stack e = take fuel (under ++ above) (e + 1))) ∧
  ∀ (pre inner post : List PlanEntry) (segment count : Nat) (outer : List RepeatContext), 1 ≤ count →
    let block := .segment segment :: inner
    let position := pre.length + block.length
    (∀ c ∈ outer, c.entry ≠ position) →
    let entries := pre ++ block ++ [.again block.length count] ++ post
    let endOfBlock := fun p : PlanPosition × List RepeatContext => takeEntry entries walkFuel p.2 position
    (∀ k, k < count → endOfBlock^[k + 1] (.at_ pre.length 0, outer) = (.at_ pre.length 0, outer ++ [⟨position, count - k⟩])) ∧
    (∀ next, post.head? = some (.segment next) → endOfBlock^[count + 1] (.at_ pre.length 0, outer) = (.at_ (position + 1) 0, outer)) ∧
    (post = [] → endOfBlock^[count + 1] (.at_ pre.length 0, outer) = (.end_, outer))

/-- SETTLE_END and WINDOW_OPEN: after the settle frames a step with an empty judge set enters MEASURE, and any other asks for the pairs of
its list at the tail of the Allocation Queue; after the first wrap frame of OPEN_WAIT the window opens. -/
def Obligations.SettleEndAndWindowOpen : Prop :=
  (∀ (n : NestId) (st : Step) (s : State), (s.nest n).phase = some .settle → (s.nest n).step = some st →
    st.settle ≤ (s.nest n).count →
    exec (.settleEnd n) s = .next (settle (
      if st.judge = ⟨none, none, none, none, none⟩ then s.setNest n { s.nest n with phase := some .measure, count := 0 }
      else (s.setNest n { s.nest n with phase := some .allocWait }).setBank
        { s.bank with queue := s.bank.queue ++ [(n, (pairList st.judge st.inc.toNat st.hlo st.hhi).length)] }))) ∧
  ∀ (n : NestId) (st : Step) (s : State), (s.nest n).phase = some .openWait → (s.nest n).step = some st →
    (s.nest n).synth.wrapped = true →
    exec (.windowOpen n) s = .next (settle ((s.setNest n { s.nest n with phase := some .measure, count := 0 }).setGuard
      { s.guard with
        watch := s.guard.watch ++ [⟨n, if st.cls = .quiet then .quiet else .normal, s.conv.frameNumber, none, false⟩] }))

/-- A frame of a nest's synthesiser: in TESTING the phase advances by the increment, a frame that carries it past 2^32 is a wrap frame, and
the sample is the frame's amplitude times the sine of the frame's phase; the amplitude is 0 in GATE_WAIT, follows the ramp in SETTLE and
is the target elsewhere. Outside TESTING the phase is held and the drive is 0. The frame count of a step rises by 1 in SETTLE and in MEASURE,
with or without a window, and stays as it is in every other phase. -/
def Obligations.ToneFrame : Prop :=
  ∀ (n : NestId) (f : InFrame) (timed : Bool) (s : State),
    let x := s.nest n
    let y := (runFrame f timed s).nest n
    y.state = x.state ∧ y.phase = x.phase ∧ y.step = x.step ∧ y.record = x.record ∧ y.synth.inc = x.synth.inc ∧
    y.count = (if x.phase = some .settle ∨ x.phase = some .measure then x.count + 1 else x.count) ∧
    (runFrame f timed s).conv.drive[n] = sineOf y.synth.amplitude x.synth.phase.toNat ∧
    (x.state ≠ .testing → y.synth.phase = x.synth.phase ∧ y.synth.amplitude = 0 ∧ (runFrame f timed s).conv.drive[n] = 0) ∧
    (x.state = .testing →
      y.synth.phase = x.synth.phase + x.synth.inc ∧
      y.synth.wrapped = decide (2 ^ 32 ≤ x.synth.phase.toNat + x.synth.inc.toNat) ∧
      (x.phase = some .gateWait → y.synth.amplitude = 0 ∧ (runFrame f timed s).conv.drive[n] = 0) ∧
      ∀ st, x.step = some st →
        (x.phase = some .settle → x.count < st.ramp → y.synth.amplitude =
          (x.synth.rampStart + roundDiv (((st.target : Int) - x.synth.rampStart) * (x.count + 1)) st.ramp).toNat) ∧
        (x.phase = some .settle → st.ramp ≤ x.count → y.synth.amplitude = st.target) ∧
        (x.phase = some .allocWait ∨ x.phase = some .openWait ∨ x.phase = some .measure ∨ x.phase = some .closeWait →
          y.synth.amplitude = st.target))

/-! ## Quiet steps and the permit (chapter 3) -/

/-- QUIET_GRANT and LOUD_GATE_PASS. With no holder, the permit available and the loud-past set empty, the head of the queue becomes the holder
and enters SETTLE; where one of the conditions fails there is no grant. With the gate open, every nest of the loud-wait set moves to the
loud-past set and enters SETTLE, and no other nest moves. -/
def Obligations.QuietArbiterDecisions : Prop :=
  (∀ (n : NestId) (rest : List NestId) (s : State), s.arbiter.queue = n :: rest →
    let granted := s.arbiter.holder = none ∧ (role s = .solo ∨ s.permit.held = true) ∧ s.arbiter.loudPast = Vector.replicate 4 false
    (granted → exec .quietGrant s = .next (settle ((s.setArbiter { s.arbiter with queue := rest, holder := some n }).setNest n
      (s.nest n).toSettle))) ∧
    (¬granted → exec .quietGrant s = .next s)) ∧
  (∀ s : State, s.arbiter.holder = none → (s.arbiter.queue = [] ∨ permitAvailable s = false) →
    (∃ n : NestId, s.arbiter.loudWait[n] = true) →
    exec .loudGatePass s = .next (settle
      { s with
        arbiter := { s.arbiter with
          loudPast := Vector.zipWith (· || ·) s.arbiter.loudPast s.arbiter.loudWait
          loudWait := Vector.replicate 4 false }
        nests := Vector.ofFn fun n : Fin 4 => if s.arbiter.loudWait[n] then (s.nest n).toSettle else s.nest n }))

/-- PERMIT_IN_RISE and PERMIT_ARRIVAL: a rising edge sets the latch; a latch that a frame event has followed (the field `due`: the consumption
is a row of its own, log entry 6) is cleared, and then ignored in role SOLO, forwarded outside the running modes, taken where no permit is
held, and absorbed with PERMIT_DUPLICATE where one is, which under STOP takes the part to STOPPED. A latch that is not due is no arrival
(log entry 8). -/
def Obligations.PermitArrives : Prop :=
  (∀ s : State, (s.permit.latch && s.permit.due) = false →
    exec .permitInRise s = .next (s.setPermit { s.permit with latch := true }) ∧ exec .permitArrival s = .next s) ∧
  ∀ s : State, s.permit.latch = true → s.permit.due = true →
    let p := { s.permit with latch := false, due := false }
    let action := actionOf s.tables.config.actionDuplicate
    let recorded := recordFault .permitDuplicate .none none none none none action (s.setPermit p)
    exec .permitArrival s = .next (settle (
      if role s = .solo then s.setPermit p
      else if s.run.mode = .standby ∨ s.run.mode = .stopped then s.setPermit p.sendPulse
      else if s.permit.held = false then s.setPermit { p with held := true, holdTimer := some ⟨0, false⟩, waitTimer := none }
      else if action = .stop then leaveRunning .stopped (.fault .permitDuplicate) recorded
      else recorded))

/-- HOLD_LIMIT_EXPIRY, the passing conditions and the out cycle: the permit is passed exactly while it is held, there is no quiet holder, and
the queue is empty or the hold timer has passed the hold limit. A pass starts a pulse when the cycle is idle and is pending otherwise; a
pulse lasts two frames and is followed by a gap of two frames, after which a pending pulse starts at once; the output is high in the pulse.
The hold timer passes its limit when it reaches it (log entry 24, DEDUCED); the ends of pulse and gap are rows of their own, due after two
frames (log entry 6), and change nothing before (log entry 8). -/
def Obligations.PermitPassesAndOutCycle : Prop :=
  (∀ p : Permit, p.sendPulse = if p.cycle = .idle then { p with cycle := .pulse 0 } else { p with pendingOut := true }) ∧
  (∀ p : Permit, permitOut p = true ↔ ∃ k, p.cycle = .pulse k) ∧
  (∀ (f : InFrame) (timed : Bool) (s : State), (runFrame f timed s).permit =
    { s.permit with
      due := s.permit.latch
      cycle := match s.permit.cycle with
        | .idle => .idle
        | .pulse k => .pulse (k + 1)
        | .gap k => .gap (k + 1) }) ∧
  (∀ (k : Nat) (s : State), s.permit.cycle = .pulse k →
    exec .permitPulseEnd s = .next (if 2 ≤ k then settle (s.setPermit { s.permit with cycle := .gap 0 }) else s)) ∧
  (∀ (k : Nat) (s : State), s.permit.cycle = .gap k →
    exec .permitGapEnd s = .next (if 2 ≤ k then settle (s.setPermit
      { s.permit with cycle := (if s.permit.pendingOut then .pulse 0 else .idle), pendingOut := false }) else s)) ∧
  (∀ (t : Nat) (s : State), s.permit.held = true → s.permit.holdTimer = some ⟨t, false⟩ → s.tables.config.holdLimit * 96 ≤ t →
    exec .holdLimitExpiry s = .next (settle (s.setPermit { s.permit with holdTimer := some ⟨t, true⟩ }))) ∧
  ∀ s : State,
    let passing := s.permit.held = true ∧ s.arbiter.holder = none ∧ (s.arbiter.queue = [] ∨ ∃ t, s.permit.holdTimer = some ⟨t, true⟩)
    (passing → permitPass s = some (s.setPermit { s.permit with held := false, holdTimer := none }.sendPulse)) ∧
    (¬passing → permitPass s = none)

/-- PERMIT_TIMEOUT: the wait timer reaches the wait limit while its conditions hold. The fault is recorded with the head of the queue; a FIRST
part regenerates the permit and goes on or stops; a MEMBER part withdraws its quiet requests or stops (the expiry at exactly the limit is log
entry 24, and the order record, regeneration, action log entry 28, both DEDUCED). A withdrawal empties the queue and stops the wait timer
first; then each nest, in queue order, gets one WINDOW finding with cause QUIET_UNAVAILABLE, offered no key and with its window count left,
its step ends, muted, and, where this leaves it in FINISHING with no window pending and a key on its Retry List, it starts that retry before
the next nest moves on. The nests that rejoin the queue stand in it in their former order. The wait timer runs, from 0, while the role is not
SOLO, the mode is a running one, the queue is not empty and no permit is held; it starts and stops within the event at which this changes. -/
def Obligations.PermitTimesOut : Prop :=
  (∀ s : State,
    let waits := role s ≠ .solo ∧ (s.run.mode = .run ∨ s.run.mode = .holding ∨ s.run.mode = .held) ∧ s.arbiter.queue ≠ [] ∧
      s.permit.held = false
    (waits → s.permit.waitTimer = none → waitTimerChange s = some (s.setPermit { s.permit with waitTimer := some ⟨0, false⟩ })) ∧
    (¬waits → s.permit.waitTimer ≠ none → waitTimerChange s = some (s.setPermit { s.permit with waitTimer := none })) ∧
    (waits → s.permit.waitTimer ≠ none → waitTimerChange s = none) ∧
    (¬waits → s.permit.waitTimer = none → waitTimerChange s = none) ∧
    (Quiescent s → (s.permit.waitTimer ≠ none ↔ waits))) ∧
  (∀ (t : Nat) (n : NestId) (rest : List NestId) (r : UnitRecord) (st : Step) (s : State),
    s.run.mode = .run ∨ s.run.mode = .holding ∨ s.run.mode = .held → s.arbiter.queue = n :: rest → s.permit.held = false →
    s.permit.waitTimer = some ⟨t, false⟩ → s.tables.config.waitLimit * 96 ≤ t → (s.nest n).record = some r → (s.nest n).step = some st →
    let recorded := fun a => recordFault .permitTimeout (.role (role s)) (some n) (some r.serial) (some st.segment) (some st.step) a s
    let regenerated := fun u : State => u.setPermit { u.permit with held := true, holdTimer := some ⟨0, false⟩, waitTimer := none }
    let a := actionOf s.tables.config.actionTimeout
    (role s = .first → a = .continue_ → exec .permitTimeout s = .next (settle (regenerated (recorded a)))) ∧
    (role s = .first → a = .stop →
      exec .permitTimeout s = .next (settle (leaveRunning .stopped (.fault .permitTimeout) (regenerated (recorded a))))) ∧
    (role s = .member → a = .continue_ → exec .permitTimeout s = .next (settle (withdrawAll (recorded a)))) ∧
    (role s = .member → a = .stop →
      exec .permitTimeout s = .next (settle (leaveRunning .stopped (.fault .permitTimeout) (recorded a))))) ∧
  (∀ s : State,
    let withdrawn := fun (u : State) (n : NestId) =>
      match (u.nest n).record, (u.nest n).step with
      | some r, some st =>
        let v := endStep n true (u.setNest n { u.nest n with
          record := some (r.enterRun st.retry st.segment st.step
            [⟨st.segment, st.step, st.code, .window, .invalid, none, none, some .quietUnavailable⟩]) })
        match (v.nest n).state, (v.nest n).record with
        | .finishing, some q =>
          match q.pending, q.retryList with
          | 0, k :: rest => startStep n (makeStep v.tables k.segment k.step true true) (v.setNest n { v.nest n with
              state := .testing
              record := some { q with
                retryList := rest, retriesUsed := q.retriesUsed + 1, position := .retry k.segment k.step } })
          | _, _ => v
        | _, _ => v
      | _, _ => u
    (∀ n ∈ s.arbiter.queue, (s.nest n).record.isSome = true) →
    withdrawAll s = s.arbiter.queue.foldl withdrawn
      ((s.setArbiter { s.arbiter with queue := [] }).setPermit { s.permit with waitTimer := none })) ∧
  ∀ s : State, PlacesFollowPhase s → (withdrawAll s).arbiter.queue.Sublist s.arbiter.queue

/-! ## Pairs and windows (chapter 4) -/

/-- PAIR_GRANT: the head of the Allocation Queue receives the pairs of its list with zero sums once the free count allows, and leaves
ALLOC_WAIT by its trim flag; while the head's request exceeds the free count nothing is granted. The pair list of a step holds in order the
mic fundamental where a microphone figure is judged, the valid harmonics 2 to 5 where THD is, the valid harmonics Hlo to Hhi where RUB is, and
the current fundamental where IMPEDANCE is; a harmonic is valid whose number times the increment is below 1,789,569,707. -/
def Obligations.PairGrants : Prop :=
  (∀ (j : JudgeSet) (inc lo hi : Nat),
    let valid := fun h => decide (h * inc < 1789569707)
    let pair := fun (c : Channel) (h : Nat) => (⟨c, h, 0, 0⟩ : Pair)
    pairList j inc lo hi =
      (if j.response.isSome = true ∨ j.thd.isSome = true ∨ j.rub.isSome = true ∨ j.crest.isSome = true then [pair .mic 1] else []) ++
      (if j.thd.isSome = true then ([2, 3, 4, 5].filter valid).map (pair .mic) else []) ++
      (if j.rub.isSome = true then ((List.range' lo (hi + 1 - lo)).filter valid).map (pair .mic) else []) ++
      if j.impedance.isSome = true then [pair .cur 1] else []) ∧
  ∀ (n : NestId) (k : Nat) (rest : List (NestId × Nat)) (st : Step) (s : State), s.bank.queue = (n, k) :: rest →
    (s.nest n).step = some st →
    let u := (s.setBank ⟨s.bank.free - k, rest⟩).setNest n
      { s.nest n with
        phase := some (if st.trim then .openWait else .measure)
        count := 0, pairs := pairList st.judge st.inc.toNat st.hlo st.hhi, peak := 0, overload := false
        synth := { (s.nest n).synth with wrapped := false } }
    (k ≤ s.bank.free → exec .pairGrant s = .next (settle (
      if st.trim then u
      else u.setGuard { s.guard with
        watch := s.guard.watch ++ [⟨n, if st.cls = .quiet then .quiet else .normal, s.conv.frameNumber, none, false⟩] }))) ∧
    (s.bank.free < k → exec .pairGrant s = .next s)

/-- A window frame: every held pair adds its channel's sample times the cosine and the sine at its harmonic, the peak and the overload flag
are tracked, and the frame's number is noted; a frame of a nest with no open window leaves them as they are. A window is open in MEASURE of a
step that judges a figure, until its last frame has come: the M-th frame, and with trim the first wrap frame from the M-th on. -/
def Obligations.WindowFrame : Prop :=
  (∀ x : Nest, windowIsOpen x = true ↔ x.phase = some .measure ∧ ∃ st, x.step = some st ∧
    (st.judge.response ≠ none ∨ st.judge.thd ≠ none ∨ st.judge.rub ≠ none ∨ st.judge.crest ≠ none ∨ st.judge.impedance ≠ none) ∧
    (x.count < st.measure ∨ (st.trim = true ∧ x.synth.wrapped = false))) ∧
  ∀ (n : NestId) (f : InFrame) (timed : Bool) (s : State),
    let x := s.nest n
    let y := (runFrame f timed s).nest n
    (windowIsOpen x = true →
      y.count = x.count + 1 ∧ y.lastFrame = s.conv.frameNumber ∧ y.peak = max x.peak f.mic[n].sample.toInt.natAbs ∧
      y.overload = (x.overload || f.mic[n].overload || timed) ∧
      y.pairs = x.pairs.map fun p =>
        let v := (if p.channel = .mic then f.mic[n].sample else f.cur[n].sample).toInt
        { p with
          i := p.i + v * cosineOf 32767 (p.h * x.synth.phase.toNat)
          q := p.q + v * sineOf 32767 (p.h * x.synth.phase.toNat) }) ∧
    (windowIsOpen x = false → y.lastFrame = x.lastFrame ∧ y.peak = x.peak ∧ y.overload = x.overload ∧ y.pairs = x.pairs)

/-- LAST_WINDOW_FRAME, WINDOW_CLOSE and WINDOWLESS_STEP_END: after the last window frame the window closes where a record is free and no nest
waits for one, and the nest joins the close-wait list otherwise; a free record goes to the head of that list; and a step without a judge
set ends after its measure frames. A window close takes a free record, fills it and places it in Guard Hold by its last frame, counts it for
the unit, removes the watch entry, and ends the step: the pairs return, quiet and the loud-past place are released, and the walk advances. -/
def Obligations.StepEnds : Prop :=
  ((∀ (n : NestId) (st : Step) (s : State), (s.nest n).phase = some .measure → (s.nest n).step = some st →
    st.judge ≠ ⟨none, none, none, none, none⟩ → st.measure ≤ (s.nest n).count → (st.trim = true → (s.nest n).synth.wrapped = true) →
    exec (.lastWindowFrame n) s = .next (settle (
      if 0 < s.store.free ∧ s.store.closeWait = [] then closeWindow n s
      else (s.setNest n { s.nest n with phase := some .closeWait }).setStore
        { s.store with closeWait := s.store.closeWait ++ [n] }))) ∧
  (∀ (n : NestId) (rest : List NestId) (s : State), s.store.closeWait = n :: rest → 0 < s.store.free →
    exec .windowClose s = .next (settle (closeWindow n s))) ∧
  ∀ (n : NestId) (st : Step) (s : State), (s.nest n).phase = some .measure → (s.nest n).step = some st →
    st.judge = ⟨none, none, none, none, none⟩ → st.measure ≤ (s.nest n).count →
    exec (.windowlessStepEnd n) s = .next (settle (endStep n false s))) ∧
  (∀ (n : NestId) (r : UnitRecord) (st : Step) (s : State), (s.nest n).record = some r → (s.nest n).step = some st →
    let x := s.nest n
    let w : WindowRecord :=
      { nest := n, serial := r.serial, retryRun := st.retry, segment := st.segment, step := st.step, code := st.code, level := st.level
        judge := st.judge, cls := st.cls, mEff := x.count, lastFrame := x.lastFrame, peak := x.peak, sums := x.pairs
        overload := x.overload
        taint := if x.overload then .overload else if s.guard.watch.any (fun e => e.nest == n && e.mark) then .ambient else .none }
    (∀ a b, (∀ v ∈ a, v.lastFrame ≤ w.lastFrame) → (∀ v ∈ b, w.lastFrame < v.lastFrame) → insertHold w (a ++ b) = a ++ w :: b) ∧
    closeWindow n s = advance n false
      { s with
        nests := s.nests.set n { x with pairs := [], record := some { r with pending := r.pending + 1 } }
        bank := { s.bank with free := s.bank.free + x.pairs.length }
        arbiter :=
          { queue := s.arbiter.queue.filter fun m => !(m == n)
            holder := if s.arbiter.holder = some n then none else s.arbiter.holder
            loudPast := s.arbiter.loudPast.set n false
            loudWait := s.arbiter.loudWait.set n false }
        store := { s.store with
          free := s.store.free - 1
          guardHold := insertHold w s.store.guardHold
          closeWait := s.store.closeWait.filter fun m => !(m == n) }
        guard := { s.guard with watch := s.guard.watch.filter fun e => !(e.nest == n) } })

/-! ## The ambient guard (chapter 5) -/

/-- A frame of the Guard Monitor: in the running modes the squares of the two guard samples enter the sums, an overloaded slot or a frame
timed from the reference clock sets the mark, and the frame numbered (k + 1) × B − 1 brings the block end of block k; outside them nothing
is accumulated. Every open window's latest frame becomes this one. -/
def Obligations.GuardFrame : Prop :=
  ∀ (f : InFrame) (timed : Bool) (s : State),
    let g := { s.guard with
      watch := s.guard.watch.map fun e => if windowIsOpen (s.nest e.nest) then { e with latest := some s.conv.frameNumber } else e }
    let b := 96 * 2 ^ s.tables.config.guardExponent
    (s.run.mode = .standby ∨ s.run.mode = .stopped → (runFrame f timed s).guard = g) ∧
    (s.run.mode = .run ∨ s.run.mode = .holding ∨ s.run.mode = .held → (runFrame f timed s).guard =
      { g with
        sum0 := g.sum0 + f.grd[0].sample.toInt.natAbs ^ 2
        sum1 := g.sum1 + f.grd[1].sample.toInt.natAbs ^ 2
        mark := g.mark || (f.grd[0].overload || f.grd[1].overload || timed)
        due := if (s.conv.frameNumber + 1) % b = 0 then some (s.conv.frameNumber / b) else none })

/-- The streams at a block end, case by case: a block that does not exceed ends the run; one that exceeds starts a run, lengthens it, or
declares it at the D-th block with all the blocks of the run; each later block of a declared run is declared alone. -/
def Obligations.StreamAdvance : Prop :=
  ∀ (x : Stream) (d k : Nat), 1 ≤ d →
    x.advance d k false = (⟨0, false, none⟩, none, false) ∧
    (x.declared = true → x.advance d k true = (x, some k, false)) ∧
    (x.declared = false → x.run = 0 →
      x.advance d k true = if d = 1 then (⟨1, true, some k⟩, some k, true) else (⟨1, false, some k⟩, none, false)) ∧
    ∀ first, x.declared = false → 1 ≤ x.run → x.first = some first →
      (x.run + 1 < d → x.advance d k true = (⟨x.run + 1, false, some first⟩, none, false)) ∧
      (x.run + 1 = d → x.advance d k true = (⟨d, true, some first⟩, some first, true))

/-- GUARD_BLOCK_END: the level of the louder channel, the advance of both streams, the events of the runs declared at it, NORMAL before
QUIET, the taint of the windows of a stream that overlap its declared blocks, and the release of the records whose release block has
ended, in this order. -/
def Obligations.GuardBlockEnds : Prop :=
  ∀ (k : Nat) (s : State), s.guard.due = some k →
    let c := s.tables.config
    let b := 96 * 2 ^ c.guardExponent
    let level := roundLog (max s.guard.sum0 s.guard.sum1) (b * fullScale ^ 2)
    let normal := s.guard.normal.advance c.guardDebounce k (decide (c.normalThreshold < level) || s.guard.mark)
    let quiet := s.guard.quiet.advance c.guardDebounce k (decide (c.quietThreshold < level) || s.guard.mark)
    let hit := fun (id : StreamId) (first last : Nat) =>
      match (if id = .quiet then quiet.2.1 else normal.2.1) with
      | some a => decide (a * b ≤ last) && decide (first < (k + 1) * b)
      | none => false
    let held := s.store.guardHold.map fun w =>
      if w.taint = .none ∧ hit (if w.cls = .quiet then .quiet else .normal) (w.lastFrame + 1 - w.mEff) w.lastFrame = true then
        { w with taint := .ambient }
      else w
    let ended := fun w : WindowRecord => decide (w.lastFrame / b + c.guardDebounce ≤ k + 1)
    let raise := fun (id : StreamId) (x : Stream × Option Nat × Bool) (p : Port) =>
      if x.2.2 then p.handOver (.guardExceeded id (x.1.first.getD 0) (x.1.first.getD 0 * b) level s.guard.mark) else p
    exec .guardBlockEnd s = .next (settle
      { s with
        guard :=
          { sum0 := 0, sum1 := 0, mark := false, last := some ⟨k, level, s.guard.mark⟩, normal := normal.1, quiet := quiet.1, due := none
            watch := s.guard.watch.map fun e =>
              match e.latest with
              | some last => if hit e.stream e.first last = true then { e with mark := true } else e
              | none => e }
        store := { s.store with
          guardHold := held.dropWhile ended
          judgeQueue := s.store.judgeQueue ++ held.takeWhile ended }
        port := raise .quiet quiet (raise .normal normal s.port) })

/-! ## Figures and limits (chapter 6) -/

/-- Rounding: to the nearest integer with halves away from zero, for a quotient and for the logarithm of a ratio, which is kept within −1500
to +600 and is −1500 for a numerator of 0. -/
def Obligations.Rounding : Prop :=
  (∀ (num : Int) (den : Nat), 0 < den →
    roundDiv num den = if 0 ≤ num then ⌊(num : ℝ) / den + 1 / 2⌋ else ⌈(num : ℝ) / den - 1 / 2⌉) ∧
  (∀ den, roundLog 0 den = -1500) ∧
  ∀ num den : Nat, 0 < num → 0 < den → RoundsTo (roundLog num den) (100 * Real.logb 10 ((num : ℝ) / den))

/-- The values of the figures, from the amplitudes that the sums of a record give: the level of an amplitude, RESPONSE, THD, RUB, CREST and
IMPEDANCE with its OPEN value. -/
def Obligations.FigureValues : Prop :=
  ∀ (w : WindowRecord) (cal : Calibration) (floor : Int), 0 < w.mEff →
    let amplitude := fun p : Pair => 2 * Real.sqrt ((p.i : ℝ) ^ 2 + (p.q : ℝ) ^ 2) / (32767 * (w.mEff : ℝ))
    let powerOf := fun p : Pair → Bool => ((w.sums.filter p).map fun x => amplitude x ^ 2).sum
    let thd := powerOf fun p => decide (p.channel = .mic ∧ 2 ≤ p.h ∧ p.h ≤ 5)
    let rub := powerOf fun p => decide (p.channel = .mic ∧ 6 ≤ p.h)
    (∀ p : Pair, (0 < amplitude p → RoundsTo (amplitudeLevel p w.mEff) (200 * Real.logb 10 (amplitude p / 8388608))) ∧
      (amplitude p = 0 → amplitudeLevel p w.mEff = -1500)) ∧
    (∀ mic : Pair, (w.sums.find? fun p => decide (p.channel = .mic) && decide (p.h = 1)) = some mic →
      responseValue w cal = max (-1500) (min 600 (amplitudeLevel mic w.mEff - w.level + cal.micOffset)) ∧
      (0 < amplitude mic →
        (0 < thd → RoundsTo (thdValue w) (100 * Real.logb 10 (thd / amplitude mic ^ 2))) ∧ (thd = 0 → thdValue w = -1500) ∧
        (0 < rub → RoundsTo (rubValue w) (100 * Real.logb 10 (rub / amplitude mic ^ 2))) ∧ (rub = 0 → rubValue w = -1500) ∧
        (0 < w.peak → RoundsTo (crestValue w) (200 * Real.logb 10 ((w.peak : ℝ) / amplitude mic))) ∧
        (w.peak = 0 → crestValue w = -1500))) ∧
    ∀ cur : Pair, (w.sums.find? fun p => decide (p.channel = .cur) && decide (p.h = 1)) = some cur →
      (amplitudeLevel cur w.mEff < floor ∨ amplitude cur = 0 → impedanceFigure w cal floor = 65535) ∧
      (floor ≤ amplitudeLevel cur w.mEff → 0 < amplitude cur →
        |(impedanceFigure w cal floor : ℝ) - min 65535 ((cal.scale : ℝ) * driveAmplitude w.level / amplitude cur)| ≤ 1 / 2)

/-- The limit of a curve at a code, by the position of the code among the breakpoints: the end limits outside, a breakpoint's own limit at
its code, and between two breakpoints the rounded interpolation, or none where either limit is absent. -/
def Obligations.LimitInterpolation : Prop :=
  ∀ points : List (Int × Option Int), (points.map (·.1)).Pairwise (· < ·) →
    (∀ first rest c, points = first :: rest → c ≤ first.1 → limitAt points c = first.2) ∧
    (∀ front last c, points = front ++ [last] → last.1 ≤ c → limitAt points c = last.2) ∧
    (∀ p ∈ points, limitAt points p.1 = p.2) ∧
    ∀ front a b rest c, points = front ++ a :: b :: rest → a.1 < c → c < b.1 →
      limitAt points c =
        match a.2, b.2 with
        | some x, some y => some (x + roundDiv ((c - a.1) * (y - x)) (b.1 - a.1).toNat)
        | _, _ => none

/-- The outcome of a figure's value and the limit recorded: the upper limit is tested first, then the lower one; a value equal to a limit
passes, and a PASS records the upper limit where one applies, else the lower one, else none. -/
def Obligations.LimitComparison : Prop :=
  ∀ (value : Int) (upper lower : Option Int),
    (∀ u, upper = some u → u < value → compareLimits value upper lower = (.high, some u)) ∧
    ((∀ u, upper = some u → value ≤ u) →
      (∀ l, lower = some l → value < l → compareLimits value upper lower = (.low, some l)) ∧
      ((∀ l, lower = some l → l ≤ value) →
        compareLimits value upper lower = (.pass, match upper with
          | some u => some u
          | none => lower)))

/-- The findings of a record: one WINDOW finding with outcome INVALID and the taint as its cause for a tainted record; for an untainted one
a finding for each judged figure in the order RESPONSE, THD, RUB, CREST, IMPEDANCE, the microphone figures being NO_RESPONSE where the
fundamental lies below the silence floor, and every other value compared with its mask at the record's code. -/
def Obligations.FindingsOfRecord : Prop :=
  ∀ (t : Tables) (w : WindowRecord),
    (w.taint = .ambient → recordFindings t w = [⟨w.segment, w.step, w.code, .window, .invalid, none, none, some .ambient⟩]) ∧
    (w.taint = .overload → recordFindings t w = [⟨w.segment, w.step, w.code, .window, .invalid, none, none, some .overload⟩]) ∧
    (w.taint = .none → ∀ mic : Pair, fundamentalOf w .mic = mic →
      let judged := fun (f : Figure) (k : FindingKind) (mask : Option Nat) =>
        match mask with
        | none => []
        | some m =>
          if f ≠ .impedance ∧ amplitudeLevel mic w.mEff < t.config.silenceFloor then
            [(⟨w.segment, w.step, w.code, k, .noResponse, none, none, none⟩ : Finding)]
          else
            let v := figureValue w (calibrationAt t w.nest) t.config.currentFloor f
            let r := compareLimits v (upperAt (maskAt t m) w.code) (lowerAt (maskAt t m) w.code)
            [⟨w.segment, w.step, w.code, k, r.1, some v, r.2, none⟩]
      recordFindings t w = judged .response .response w.judge.response ++ judged .thd .thd w.judge.thd ++
        judged .rub .rub w.judge.rub ++ judged .crest .crest w.judge.crest ++ judged .impedance .impedance w.judge.impedance)

/-- FIGURE_UNIT_TAKE and FIGURE_UNIT_COMPLETION: the idle unit takes the head of the Judge Queue; a completion enters the findings, offers
the key of a tainted record, lowers the window count, offers the STEP_REPORT that the nest's setting asks for, with the fields of its table
(`CommandService` says what an offer does), and frees the record; for an aborted unit it only lowers the count and frees the record. Each frame
event counts for the record in computation; from the 48th on the completion is due, and is taken before the next one, so no step lets a
computation last longer than 48 frame events. Before that it comes at any time (log entry 23, DEDUCED). -/
def Obligations.FigureUnitRuns : Prop :=
  (∀ (f : InFrame) (timed : Bool) (s : State), (runFrame f timed s).store =
    { s.store with computing := s.store.computing.map fun c => { c with frames := c.frames + 1 } }) ∧
  computationOverdue ∈ dueEvents ∧
  (∀ (c : Computation) (s : State), s.store.computing = some c →
    (c.frames < 48 → computationOverdue s = none) ∧ (48 ≤ c.frames → computationOverdue s = figureUnitCompletion s)) ∧
  (∀ (i : Instr) (s t : State), (∀ c, s.store.computing = some c → c.frames ≤ 48) → exec i s = .next t →
    ∀ c, t.store.computing = some c → c.frames ≤ 48) ∧
  (∀ (w : WindowRecord) (rest : List WindowRecord) (s : State), s.store.computing = none → s.store.judgeQueue = w :: rest →
    exec .figureUnitTake s = .next (settle (s.setStore { s.store with judgeQueue := rest, computing := some ⟨w, 0⟩ }))) ∧
  (∀ (c : Computation) (s : State), s.store.computing = some c → (s.nest c.record.nest).record = none →
    exec .figureUnitCompletion s = .next (settle (s.setStore { s.store with free := s.store.free + 1, computing := none }))) ∧
  ∀ (c : Computation) (r : UnitRecord) (s : State), s.store.computing = some c → (s.nest c.record.nest).record = some r →
    let w := c.record
    let freed := { s.store with free := s.store.free + 1, computing := none }
    let fs := recordFindings s.tables w
    let entered := (if w.retryRun then r.removeStep w.segment w.step else r).enterAll fs
    let key := entered.admitsKey (planAt s.tables r.plan).budget ⟨w.segment, w.step⟩
    let rule := reportOf s.tables.config.stepReport[w.nest]
    let level := fun c : Channel =>
      if w.taint = .none then (w.sums.find? fun p => decide (p.channel = c ∧ p.h = 1)).map fun p => amplitudeLevel p w.mEff else none
    let report : StepReport :=
      { nest := w.nest, serial := w.serial, retryRun := w.retryRun, segment := w.segment, step := w.step, code := w.code, cls := w.cls
        mEff := w.mEff, lastFrame := w.lastFrame, taint := w.taint, micLevel := level .mic, curLevel := level .cur
        retryKey := if w.taint = .none then none else some key, findings := fs }
    (r.abort.isSome = true → exec .figureUnitCompletion s = .next (settle ((s.setStore freed).setNest w.nest
      { s.nest w.nest with record := some { r with pending := r.pending - 1 } }))) ∧
    (r.abort = none → exec .figureUnitCompletion s = .next (settle (
      let u := (s.setStore freed).setNest w.nest
        { s.nest w.nest with
          record := some { entered with
            retryList := if w.taint ≠ .none ∧ key = true then entered.retryList ++ [⟨w.segment, w.step⟩] else entered.retryList
            pending := entered.pending - 1 } }
      if rule = .all ∨ (rule = .fails ∧ ∃ f ∈ fs, f.outcome ≠ .pass) then
        u.setPort (s.port.offerStepReport report)
      else u)))

/-! ## Findings and grading (chapter 7) -/

/-- The entry of a finding, its replacement, the admission of a key and the conditions of a rule. An entry is tallied and is stored at the tail,
or counted in the overflow row of its step, which is created where it did not exist; the replacement of a step's findings leaves no entry and no
row of the step and every other entry as it was; and both keep the relation of the tally with the stored findings and the overflow rows. A key
is admitted, at the tail, where it is not listed, the retries used and the keys listed together are below the budget, and the list holds fewer
than 16. A FINDINGS condition compares the sum of the tally over its pairs; a rule holds when all its conditions do. -/
def Obligations.FindingsStayConsistent : Prop :=
  (∀ (r : UnitRecord) (f : Finding) (segment step : Nat), r.Consistent →
    let stored := r.findings.length < 16 ∧ ∀ g ∈ r.findings, ¬(g.segment = f.segment ∧ g.step = f.step ∧ g.kind = f.kind)
    let bumped := fun t : Tally => t.set (tallyIndex f.kind f.outcome) (t[tallyIndex f.kind f.outcome] + 1)
    let ofStep := fun x : OverflowRow => x.segment = f.segment ∧ x.step = f.step
    (r.enter f).Consistent ∧ (r.removeStep segment step).Consistent ∧
    (stored → r.enter f = { r with tally := bumped r.tally, findings := r.findings ++ [f] }) ∧
    (¬stored →
      (∀ front x back, r.rows = front ++ x :: back → ofStep x → (∀ y ∈ front, ¬ofStep y) → r.enter f = { r with
        tally := bumped r.tally, overflow := r.overflow + 1, rows := front ++ { x with counts := bumped x.counts } :: back }) ∧
      ((∀ y ∈ r.rows, ¬ofStep y) → r.enter f = { r with
        tally := bumped r.tally, overflow := r.overflow + 1
        rows := r.rows ++ [⟨f.segment, f.step, bumped (Vector.replicate 30 0)⟩] })) ∧
    (r.removeStep segment step).findings = r.findings.filter (fun g => decide ¬(g.segment = segment ∧ g.step = step)) ∧
    (r.removeStep segment step).rows = r.rows.filter fun x => decide ¬(x.segment = segment ∧ x.step = step)) ∧
  (∀ (r : UnitRecord) (budget : Nat) (k : RetryKey),
    let admitted := k ∉ r.retryList ∧ r.retriesUsed + r.retryList.length < budget ∧ r.retryList.length < 16
    (r.admitsKey budget k = true ↔ admitted) ∧ (admitted → r.offerKey budget k = { r with retryList := r.retryList ++ [k] }) ∧
    (¬admitted → r.offerKey budget k = r)) ∧
  ∀ (r : UnitRecord) (n : NestId),
    (∀ kinds outcomes cmp k,
      let pairs := ([.response, .thd, .rub, .crest, .impedance, .window] : List FindingKind).flatMap fun x =>
        ([.pass, .high, .low, .noResponse, .invalid] : List FindingOutcome).map fun o => (x, o)
      let sum := ((pairs.filter fun p => decide (p.1 ∈ kinds ∧ p.2 ∈ outcomes)).map fun p => r.tally.get p.1 p.2).sum
      r.tally.sumOver kinds outcomes = sum ∧
      (Condition.holds r n (.findings kinds outcomes cmp k) = true ↔
        match cmp with
        | .atLeast => k ≤ sum
        | .exactly => sum = k
        | .fewerThan => sum < k)) ∧
    (∀ is, Condition.holds r n (.retest is) = true ↔ (is = true ↔ ∃ p, r.prior = some p)) ∧
    (∀ nests, Condition.holds r n (.nest nests) = true ↔ n ∈ nests) ∧
    ∀ g : GradeRule, GradeRule.holds r n g = true ↔ ∀ c ∈ g.conditions, Condition.holds r n c = true

/-! ## Lots and yield (chapter 8) -/

/-- An increment of a Lot Record count below 16,777,215 adds 1 and leaves the flag; at 16,777,215 it sets the flag and leaves the count. -/
def Obligations.CountsSaturate : Prop :=
  ∀ c : Count, (c.value < 16777215 → c.bump = ⟨c.value + 1, c.saturated⟩) ∧
    (c.value = 16777215 → c.bump = ⟨16777215, true⟩) ∧ (c.value ≤ 16777215 → c.bump.value ≤ 16777215)

/-- The Lot Counters at the disposal of a graded unit: the counts, the rolling window with its yield check, and the nest's consecutive fails
with its alert check, in this order, each event handed over as it is raised. -/
def Obligations.GradedUnitsAreCounted : Prop :=
  ∀ (n : NestId) (r : UnitRecord) (d : Disposition) (s : State),
    let l := s.lot
    let pass := decide (d.bin = 0)
    let full := decide (l.settings.window ≤ l.outcomes.length)
    let outcomes := (if full then l.outcomes.tail else l.outcomes) ++ [pass]
    let passes := l.passCount + pass.toNat - (full && l.outcomes.headD false).toNat
    let low := decide (outcomes.length = l.settings.window) && !l.yieldLow && decide (passes < l.settings.threshold)
    let recovered := l.yieldLow && decide (l.settings.threshold ≤ passes)
    let fails := if d.bin = 0 then 0 else min 255 (l.fails[n] + 1)
    let alert := decide (l.settings.failLimit ≠ 0) && decide (l.settings.failLimit ≤ fails) && !l.alerts[n]
    let u := countGraded n r d s
    (∀ m : NestId, m ≠ n → u.lot.fails[m] = l.fails[m] ∧ u.lot.alerts[m] = l.alerts[m]) ∧
    u.lot.fails[n] = fails ∧ u.lot.alerts[n] = (l.alerts[n] || alert) ∧
    u.lot.outcomes = outcomes ∧ u.lot.passCount = passes ∧ u.lot.yieldLow = (if low then true else if recovered then false else l.yieldLow) ∧
    u.lot.counts.graded = l.counts.graded.bump ∧ u.lot.counts.aborted = l.counts.aborted ∧ u.lot.counts.started = l.counts.started ∧
    (∀ g : Fin 16, u.lot.counts.perGrade[g] = if g.val = d.code then l.counts.perGrade[g].bump else l.counts.perGrade[g]) ∧
    (∀ m : NestId, u.lot.counts.nestGraded[m] = (if m = n then l.counts.nestGraded[m].bump else l.counts.nestGraded[m]) ∧
      u.lot.counts.nestPassed[m] = if m = n ∧ d.bin = 0 then l.counts.nestPassed[m].bump else l.counts.nestPassed[m]) ∧
    u.lot.counts.firstGraded = (if r.prior = none then l.counts.firstGraded.bump else l.counts.firstGraded) ∧
    u.lot.counts.firstPassed = (if r.prior = none ∧ d.bin = 0 then l.counts.firstPassed.bump else l.counts.firstPassed) ∧
    u.lot.counts.retestGraded = (if r.prior = none then l.counts.retestGraded else l.counts.retestGraded.bump) ∧
    u.lot.counts.retestPassed = (if r.prior ≠ none ∧ d.bin = 0 then l.counts.retestPassed.bump else l.counts.retestPassed) ∧
    u.lot.isOpen = l.isOpen ∧ u.lot.lotId = l.lotId ∧ u.lot.serialPrefix = l.serialPrefix ∧ u.lot.nextSerial = l.nextSerial ∧
    u.lot.exhausted = l.exhausted ∧ u.lot.settings = l.settings ∧
    u.port =
      let p := if low then s.port.handOver (.yieldLow l.lotId l.settings.window l.settings.threshold passes r.serial n)
        else if recovered then
          s.port.handOver (.yieldRecovered l.lotId l.settings.window l.settings.threshold passes (.append r.serial n))
        else s.port
      if alert then p.handOver (.nestAlert n fails l.settings.failLimit r.serial d.code d.bin) else p

/-- NEW_LOT and CLEAR_NEST_ALERT. NEW_LOT is refused for malformed fields and then for a unit in flight, and otherwise opens the lot with
every count and the rolling window cleared, the alert flags left, and a YIELD_RECOVERED where yield-low was set, handed over before the reply
(log entry 11, DESIGN CHOICE). CLEAR_NEST_ALERT is refused for a nest above 3, and otherwise clears the nest's alert flag and consecutive-fail
count. -/
def Obligations.LotCommands : Prop :=
  (∀ (tag : Byte) (lotId serialPrefix serial : Text) (s : State), Serving s →
    let chars := fun (lo : Nat) (t : Text) => lo ≤ t.length ∧ t.length ≤ 6 ∧ ∀ b ∈ t, 32 ≤ b.toNat ∧ b.toNat ≤ 126
    let fits := chars 1 lotId ∧ chars 0 serialPrefix ∧ serial.length = 8 ∧ ∀ b ∈ serial, 48 ≤ b.toNat ∧ b.toNat ≤ 57
    let inFlight := ∃ n : NestId, (s.nest n).state = .testing ∨ (s.nest n).state = .finishing ∨ (s.nest n).state = .disposing
    let opened := s.setLot { s.lot with
      isOpen := true, lotId := lotId, serialPrefix := serialPrefix, nextSerial := digitsValue serial, exhausted := false
      counts := LotCounts.zero, outcomes := [], passCount := 0, yieldLow := false, fails := Vector.replicate 4 0 }
    (¬fits → exec (.newLot tag lotId serialPrefix serial) s = .next (settle (s.withReply tag .badArgument .none))) ∧
    (fits → inFlight → exec (.newLot tag lotId serialPrefix serial) s = .next (settle (s.withReply tag .busy .none))) ∧
    (fits → ¬inFlight → exec (.newLot tag lotId serialPrefix serial) s = .next (settle (
      (if s.lot.yieldLow then opened.setPort
          (s.port.handOver (.yieldRecovered lotId s.lot.settings.window s.lot.settings.threshold 0 .newLot))
        else opened).withReply tag .ok .none)))) ∧
  ∀ (tag : Byte) (nest : Nat) (s : State), Serving s →
    (3 < nest → exec (.clearNestAlert tag nest) s = .next (settle (s.withReply tag .badArgument .none))) ∧
    ∀ n : NestId, n.val = nest → exec (.clearNestAlert tag nest) s = .next (settle (
      (s.setLot { s.lot with fails := s.lot.fails.set n 0, alerts := s.lot.alerts.set n false }).withReply tag .ok .none))

/-! ## The marker line (chapter 9) -/

/-- MARKER_FRAME_START, SEND_COMPLETION, ACK, NAK and REPLY_TIMEOUT: the head label is framed and sent, the reply is awaited, an ACK removes
the head, a first failure sends it again, and a second one raises MARKER_FAULT, which discards the head under CONTINUE and holds it under
STOP. The reply timer passes its limit when it reaches it (log entry 24, DEDUCED). MARKER_TX carries the frame while SENDING, ten bits for each
byte: a start bit, 8 data bits with the least significant first, and a stop bit, with no parity; nothing at other times. Of the bytes
received in that form on MARKER_RX only ACK (6) and NAK (21) are taken, in AWAITING; any other byte, one whose stop bit is not found, and a
byte outside AWAITING are ignored. -/
def Obligations.MarkerLine : Prop :=
  (∀ b : Byte, ∃ bits : List Bool, lineForm b = [.start] ++ bits.map LineBit.data ++ [.stop] ∧ bits.length = 8 ∧
    (∀ i : Fin 8, bits[i.val]? = some (b.getLsbD i.val)) ∧ receivedByte (lineForm b) = some b) ∧
  (∀ m : Marker, (m.send = .sending → markerTx m = (m.frame.map lineForm).flatten ∧ (markerTx m).length = 10 * m.frame.length) ∧
    (m.send ≠ .sending → markerTx m = [])) ∧
  (∀ (bits : List LineBit) (s : State),
    (∀ b, receivedByte bits = some b → bits = lineForm b ∧ (b ≠ 6 → b ≠ 21 → receiveLine bits s = none)) ∧
    (receivedByte bits = none → receiveLine bits s = none) ∧
    (s.marker.send ≠ .awaiting → receiveLine bits s = none) ∧
    exec .ack s = .next (happen (receiveLine (lineForm 6)) s) ∧ exec .nak s = .next (happen (receiveLine (lineForm 21)) s)) ∧
  (∀ (l : Label) (rest : List Label) (s : State), s.marker.labels = l :: rest → s.marker.send = .idle →
    s.inputs.markerReady.debounced = true → s.run.mode ≠ .stopped → s.marker.hold = false →
    exec .markerFrameStart s = .next (settle (s.setMarker { s.marker with
      send := .sending, baud := s.tables.config.baud, frame := [2] ++ l.text ++ [3] }))) ∧
  (∀ s : State, s.marker.send = .sending →
    exec .sendCompletion s = .next (settle (s.setMarker { s.marker with
      send := .awaiting, replyTimer := some ⟨0, false⟩, replyLimit := s.tables.config.replyTimeout }))) ∧
  (∀ s : State, s.marker.send ≠ .awaiting → exec .ack s = .next s ∧ exec .nak s = .next s) ∧
  (∀ (l : Label) (rest : List Label) (s : State), s.marker.send = .awaiting → s.marker.labels = l :: rest →
    exec .ack s = .next (settle (s.setMarker { s.marker with labels := rest, send := .idle, retry := 0, replyTimer := none }))) ∧
  ∀ (i : Instr) (failure : MarkerFailure) (l : Label) (rest : List Label) (s : State),
    s.marker.send = .awaiting → s.marker.labels = l :: rest →
    (i = .nak ∧ failure = .nak ∨ i = .replyTimeout ∧ failure = .timeout ∧
      ∃ t, s.marker.replyTimer = some ⟨t, false⟩ ∧ 960 * s.marker.replyLimit ≤ t) →
    (s.marker.retry = 0 →
      exec i s = .next (settle (s.setMarker { s.marker with send := .idle, retry := 1, replyTimer := none }))) ∧
    (s.marker.retry = 1 →
      let a := actionOf s.tables.config.actionMarker
      let idle := { s.marker with send := .idle, retry := 0, replyTimer := none }
      let recorded := recordFault .markerFault (.marker failure) (some l.nest) (some l.serial) none none a (s.setMarker idle)
      (a = .continue_ → exec i s = .next (settle ((recorded.setMarker { idle with labels := rest }).setPort
        (recorded.port.handOver (.labelDiscarded l.serial l.nest l.truncated failure rest.length))))) ∧
      (a = .stop → s.run.mode = .standby ∨ s.run.mode = .stopped →
        exec i s = .next (settle (recorded.setMarker { idle with hold := true }))) ∧
      (a = .stop → s.run.mode = .run ∨ s.run.mode = .holding ∨ s.run.mode = .held →
        exec i s = .next (settle (leaveRunning .stopped (.fault .markerFault) (recorded.setMarker { idle with hold := true })))))

/-! ## Faults and run control (chapter 10) -/

/-- A fault is recorded: the fault count rises, the latched flag is set, the record joins the Fault History, which overwrites its oldest
record when it holds 16, the first-fault record takes it where the action is STOP and it is empty, and FAULT_RAISED is handed over. And a
frame-marker silence of 1 ms in sync declares CONVERTER_SYNC_LOST with action STOP: the port enters LOST and every open window's overload
flag is set. The millisecond, 96 frame periods of the reference clock (log entry 5, DESIGN CHOICE), passes before the declaration; what is due
is taken before each frame period, so that only what falls due at its end comes after the declaration (log entries 6 and 27, DESIGN CHOICE).
Where nothing falls due in it, the millisecond is only a time of the reference clock, `tick` (`FrameEvents`). In LOST the row changes
nothing (log entry 8, DESIGN CHOICE). -/
def Obligations.FaultsAreRecorded : Prop :=
  (∀ (kind : FaultKind) (detail : FaultDetail) (nest : Option NestId) (serial segment step : Option Nat) (a : Action) (s : State),
    let count := min 4294967295 (s.run.count + 1)
    let r : FaultRecord := ⟨count, kind, detail, nest, serial, segment, step, a, s.run.mode⟩
    s.run.count ≤ 4294967295 →
    recordFault kind detail nest serial segment step a s =
      { s with
        run := { s.run with
          count := count
          latched := s.run.latched.set (faultIndex kind) true
          history := (if s.run.history.length < 16 then s.run.history else s.run.history.drop 1) ++ [r]
          first := if a = .stop ∧ s.run.first = none then some r else s.run.first }
        port := s.port.handOver (.faultRaised r) }) ∧
  (∀ s : State, s.conv.inSync = false → exec .converterSyncLost s = .next s) ∧
  (∀ s : State, lapse 0 s = s) ∧
  (∀ (k : Nat) (s : State), lapse (k + 1) s = lapse k (tick 1 (flush s))) ∧
  (∀ (k : Nat) (s : State), (∀ j < k, NothingDue (tick j s)) → lapse k s = tick k s) ∧
  ∀ s : State, s.conv.inSync = true →
    let u := lapse 96 s
    let lost := { u with
      conv := { u.conv with inSync := false }
      nests := u.nests.map fun x =>
        if windowIsOpen x = true then { x with overload := true } else x }
    let recorded := recordFault .converterSyncLost .none none none none none .stop lost
    (u.run.mode = .standby ∨ u.run.mode = .stopped → exec .converterSyncLost s = .next (settle recorded)) ∧
    (u.run.mode = .run ∨ u.run.mode = .holding ∨ u.run.mode = .held →
      exec .converterSyncLost s = .next (settle (leaveRunning .stopped (.fault .converterSyncLost) recorded)))

/-- The start and the leaving of a run. At the start the frame number is 0, the guard takes its start values, FIRST takes the permit, the Lot
Counters take their settings in force and start the rolling window afresh where W or the threshold has changed, and the mode becomes RUN. At
the leaving of a running mode every unit in TESTING or FINISHING is aborted with reason STOPPED, in ascending nest order, and the others
stay; the permit is passed on once when it is held or latched outside role SOLO; the guard takes its start values; the mode changes. -/
def Obligations.RunStartsAndEnds : Prop :=
  (∀ s : State,
    let c := s.tables.config
    let same := s.lot.settings.window = c.yieldWindow ∧ s.lot.settings.threshold = c.yieldThreshold
    let settings : LotSettings := ⟨c.yieldWindow, c.yieldThreshold, c.failLimit⟩
    enterRun s = ({ s with
      conv := { s.conv with frameNumber := 0 }
      guard := ⟨0, 0, false, none, ⟨0, false, none⟩, ⟨0, false, none⟩, [], none⟩
      permit := if role s = .first then { s.permit with held := true, holdTimer := some ⟨0, false⟩, waitTimer := none } else s.permit
      lot := if same then { s.lot with settings := settings }
        else { s.lot with settings := settings, outcomes := [], passCount := 0, yieldLow := false }
      port := if ¬same ∧ s.lot.yieldLow = true then
          s.port.handOver (.yieldRecovered s.lot.lotId c.yieldWindow c.yieldThreshold 0 .runStart)
        else s.port } : State).withMode .run .startRun) ∧
  ∀ (mode : Mode) (cause : ModeCause) (s : State),
    let u := abortUnit 3 .stopped (abortUnit 2 .stopped (abortUnit 1 .stopped (abortUnit 0 .stopped s)))
    let idle := { s.permit with held := false, latch := false, due := false, holdTimer := none, waitTimer := none }
    leaveRunning mode cause s = (({ u with
      permit :=
        if role s ≠ .solo ∧ (s.permit.held = true ∨ s.permit.latch = true) then
          match s.permit.cycle with
          | .idle => { idle with cycle := .pulse 0 }
          | _ => { idle with pendingOut := true }
        else idle
      guard := ⟨0, 0, false, none, ⟨0, false, none⟩, ⟨0, false, none⟩, [], none⟩ } : State).withMode mode cause) ∧
    ∀ n : NestId, ((leaveRunning mode cause s).nest n).state ≠ .testing ∧ ((leaveRunning mode cause s).nest n).state ≠ .finishing ∧
      ((s.nest n).state ≠ .testing → (s.nest n).state ≠ .finishing → (leaveRunning mode cause s).nest n = s.nest n)

/-- START_RUN, STOP_RUN, HOLD_SMART, HOLD_FORCE, RESUME, VALIDATION_COMPLETION and HELD_REACHED: the refusals in their order, and the change
of mode or the validation each one brings. MODE_CHANGED is handed over before the reply (log entry 11, DESIGN CHOICE). The reply of a
completed validation is placed where a reply slot is available, and is the waiting reply otherwise. The completion comes at any time of the
validation (log entry 23, DEDUCED); 50 ms after its start it is due, and is taken before time goes on, so no step lets a validation last
longer. -/
def Obligations.RunCommands : Prop :=
  (∀ (tag : Byte) (s : State), Serving s →
    let running := s.run.mode = .run ∨ s.run.mode = .holding ∨ s.run.mode = .held
    (s.run.mode ≠ .standby → exec (.startRun tag) s = .next (settle (s.withReply tag .wrongMode .none))) ∧
    (s.run.mode = .standby → s.run.validation ≠ none → exec (.startRun tag) s = .next (settle (s.withReply tag .busy .none))) ∧
    (s.run.mode = .standby → s.run.validation = none → s.conv.inSync = false →
      exec (.startRun tag) s = .next (settle (s.withReply tag .conditionPresent .none))) ∧
    (s.run.mode = .standby → s.run.validation = none → s.conv.inSync = true → s.run.mark = true →
      exec (.startRun tag) s = .next (settle ((enterRun s).withReply tag .ok .none))) ∧
    (s.run.mode = .standby → s.run.validation = none → s.conv.inSync = true → s.run.mark = false →
      exec (.startRun tag) s = .next (settle (s.setRun { s.run with validation := some ⟨tag, 0⟩ }))) ∧
    (running → exec (.stopRun tag) s = .next (settle ((leaveRunning .standby .stopRun s).withReply tag .ok .none))) ∧
    (¬running → exec (.stopRun tag) s = .next (settle (s.withReply tag .wrongMode .none))) ∧
    (s.run.mode = .run → exec (.holdSmart tag) s = .next (settle ((s.withMode .holding .holdSmart).withReply tag .ok .none))) ∧
    (s.run.mode ≠ .run → exec (.holdSmart tag) s = .next (settle (s.withReply tag .wrongMode .none))) ∧
    (s.run.mode = .run ∨ s.run.mode = .holding → exec (.holdForce tag) s = .next (settle (
      ((abortUnit 3 .holdForced (abortUnit 2 .holdForced (abortUnit 1 .holdForced (abortUnit 0 .holdForced s)))).withMode
        .held .holdForce).withReply tag .ok .none))) ∧
    (¬(s.run.mode = .run ∨ s.run.mode = .holding) → exec (.holdForce tag) s = .next (settle (s.withReply tag .wrongMode .none))) ∧
    (s.run.mode = .holding ∨ s.run.mode = .held →
      exec (.resume tag) s = .next (settle ((s.withMode .run .resume).withReply tag .ok .none))) ∧
    (¬(s.run.mode = .holding ∨ s.run.mode = .held) → exec (.resume tag) s = .next (settle (s.withReply tag .wrongMode .none)))) ∧
  (∀ (v : Validation) (s : State), s.run.validation = some v →
    let failed := s.setRun { s.run with validation := none }
    let passed := s.setRun { s.run with validation := none, mark := true }
    let answered := fun (u : State) (code : ReplyCode) (data : ReplyData) =>
      if u.port.results.length < 48 then u.withReply v.tag code data else u.setPort { u.port with waiting := some ⟨v.tag, code, data⟩ }
    (∀ f, validate s.tables = some f →
      exec .validationCompletion s = .next (settle (answered failed .tableInvalid (.invalid f.detail f.index)))) ∧
    (validate s.tables = none → s.conv.inSync = true →
      exec .validationCompletion s = .next (settle (answered (enterRun passed) .ok .none))) ∧
    (validate s.tables = none → s.conv.inSync = false →
      exec .validationCompletion s = .next (settle (answered passed .conditionPresent .none)))) ∧
  validationOverdue ∈ dueEvents ∧
  (∀ (v : Validation) (s : State), s.run.validation = some v →
    (v.elapsed < 50 * 96 → validationOverdue s = none) ∧ (50 * 96 ≤ v.elapsed → validationOverdue s = validationCompletion s)) ∧
  (∀ (i : Instr) (s t : State), (∀ v, s.run.validation = some v → v.elapsed ≤ 50 * 96) → exec i s = .next t →
    ∀ v, t.run.validation = some v → v.elapsed ≤ 50 * 96) ∧
  ∀ s : State, s.run.mode = .holding →
    (∀ n : NestId, (s.nest n).state = .empty ∨ (s.nest n).state = .loaded ∨ (s.nest n).state = .disposed) →
    exec .heldReached s = .next (settle (s.withMode .held .heldReached))

/-- The checks of validation. The tables are taken in the order PLAN, SEGMENT, MASK (first the mask references of the segments),
GRADE, LABEL_TEMPLATE (first the template references of the rules), CALIBRATION, CONFIGURATION, their entries in ascending index, and the
checks of an entry in ascending detail code (log entry 38, DEDUCED: 301 for every figure of a segment, then 302); the first failure is reported with its index. Each check is stated with its detail code. Under
615 a floor, reported at index 0, is taken before a nest's setting (log entry 35, DESIGN CHOICE). -/
def Obligations.ValidationChecks : Prop :=
  let exactly := fun (i : Nat) (fs : List Failure) (checks : List (Nat × Prop)) =>
    (fs.map (·.detail)).Pairwise (· < ·) ∧ ∀ f : Failure, f ∈ fs ↔ f.index = i ∧ ∃ bad, (f.detail, bad) ∈ checks ∧ bad
  let within := fun (lo hi v : Int) => lo ≤ v ∧ v ≤ hi
  let printableText := fun t : Text => ∀ b ∈ t, 32 ≤ b.toNat ∧ b.toNat ≤ 126
  (∀ t : Tables, validate t = (
    ((List.finRange 8).flatMap fun i : Fin 8 => planFailures t i t.plans[i]) ++
    ((List.finRange 128).flatMap fun i : Fin 128 => t.segments[i].toList.flatMap (segmentFailures i)) ++
    ((List.finRange 128).flatMap fun i : Fin 128 => t.segments[i].toList.flatMap (maskReferenceFailures t i)) ++
    ((List.finRange 16).flatMap fun i : Fin 16 => t.masks[i].toList.flatMap (maskFailures i)) ++
    gradeTableFailures t ++
    ((List.finRange 16).flatMap fun i : Fin 16 => t.grades[i].toList.flatMap (templateReferenceFailures t i)) ++
    ((List.finRange 8).flatMap fun i : Fin 8 => t.templates[i].toList.flatMap (templateFailures i)) ++
    ((List.finRange 4).flatMap fun i : Fin 4 => calibrationFailures i t.calibration[i]) ++
    configurationFailures t.config).head?) ∧
  (∀ (t : Tables) (i : Nat) (p : Plan),
    let repeatAt := fun e back count => p.entries[e]? = some (.again back count)
    let spanOf := fun first last => ∃ back count, repeatAt last back count ∧ first = last - back
    exactly i (planFailures t i p) [
      (101, ∃ k, .segment k ∈ p.entries ∧ (t.segments[k]?).join = none),
      (102, ∃ e back count, repeatAt e back count ∧ ¬(1 ≤ back ∧ back ≤ e)),
      (103, ∃ e back count, repeatAt e back count ∧ ¬(1 ≤ count ∧ count ≤ 255)),
      (104, ∃ a b c d, spanOf a b ∧ spanOf c d ∧ a < c ∧ c ≤ b ∧ b < d),
      (105, ∃ e b c d, b < c ∧ c < d ∧ ∀ last ∈ [b, c, d], ∃ first, spanOf first last ∧ first ≤ e ∧ e ≤ last),
      (106, p.entries = [] ∧ ∃ n : NestId, t.config.autostart[n] = true ∧ t.config.defaultPlan[n] = i),
      (107, 7 < p.budget ∨ 8 < p.name.length ∨ ¬printableText p.name)]) ∧
  (∀ (i : Nat) (g : Segment), exactly i (segmentFailures i g) [
    (201, ¬within 0 480 g.startCode), (202, ¬within 1 64 g.stepCount), (203, ¬within (-48) 48 g.stepSize),
    (204, ¬within (-600) 0 g.level), (205, 960 < g.rampFrames), (206, 60000 < g.settleFrames),
    (207, ¬within 96 60000 g.measureFrames), (208, ¬within 6 20 g.hlo ∨ 40 < g.hhi), (209, g.hhi < g.hlo),
    (210, ∃ m, some m ∈ [g.judge.response, g.judge.thd, g.judge.rub, g.judge.crest, g.judge.impedance] ∧ 15 < m),
    (211, ¬within 0 480 (g.startCode + ((g.stepCount : Int) - 1) * g.stepSize)), (212, g.settleFrames < g.rampFrames)]) ∧
  (∀ (t : Tables) (i : Nat) (g : Segment),
    let names := fun (f : Figure) (m : Nat) => (match f with
      | .response => g.judge.response
      | .thd => g.judge.thd
      | .rub => g.judge.rub
      | .crest => g.judge.crest
      | .impedance => g.judge.impedance) = some m
    exactly i (maskReferenceFailures t i g) [
      (301, ∃ f m, names f m ∧ (t.masks[m]?).join = none),
      (302, ∃ f m k, names f m ∧ (t.masks[m]?).join = some k ∧ k.kind ≠ f)]) ∧
  (∀ (i : Nat) (m : Mask), exactly i (maskFailures i m) [
    (303, m.points.length < 2),
    (304, (∃ b ∈ m.points, ¬within 0 480 b.code) ∨ ¬(m.points.map (·.code)).Pairwise (· < ·)),
    (305, ∃ b ∈ m.points, ∃ v, (b.upper = some v ∨ b.lower = some v) ∧
      if m.kind = .impedance then ¬within 0 65535 v else ¬within (-1500) 600 v),
    (306, ∃ b ∈ m.points, ∃ l u, b.lower = some l ∧ b.upper = some u ∧ u < l)]) ∧
  (∀ t : Tables,
    ((∀ i : Fin 16, t.grades[i] = none) → gradeTableFailures t = [⟨401, 0⟩]) ∧
    ∀ last : Fin 16, t.grades[last] ≠ none → (∀ i : Fin 16, last < i → t.grades[i] = none) →
      gradeTableFailures t = (List.finRange 16).flatMap fun i => t.grades[i].toList.flatMap (gradeFailures last i)) ∧
  (∀ (last i : Nat) (g : GradeRule), exactly i (gradeFailures last i g) [
    (402, i = last ∧ g.conditions ≠ []),
    (403, 15 < g.code ∨ 7 < g.bin ∨ 8 < g.name.length ∨ ¬printableText g.name),
    (404, ∃ k, .unknown k ∈ g.conditions),
    (405, (∃ ks os cmp k, .findings ks os cmp k ∈ g.conditions ∧ (ks = [] ∨ os = [])) ∨ .nest [] ∈ g.conditions),
    (406, ∃ ks os cmp k, .findings ks os cmp k ∈ g.conditions ∧ 255 < k)]) ∧
  (∀ (t : Tables) (i : Nat) (g : GradeRule),
    exactly i (templateReferenceFailures t i g) [(501, ∃ k, g.template = some k ∧ (t.templates[k]?).join = none)]) ∧
  (∀ (i : Nat) (fs : List LabelField),
    exactly i (templateFailures i fs) [(502, fs = []), (503, ∃ x, .literal x ∈ fs ∧ ¬printableText x)]) ∧
  (∀ (i : Nat) (c : Option Calibration), exactly i (calibrationFailures i c) [
    (601, c = none), (602, ∃ x, c = some x ∧ ¬within (-200) 200 x.micOffset), (603, ∃ x, c = some x ∧ x.scale = 0)]) ∧
  ∀ c : Configuration,
    (configurationFailures c).Pairwise (fun f g => f.detail < g.detail ∨ f.detail = g.detail ∧ f.index ≤ g.index) ∧
    ∀ f : Failure, f ∈ configurationFailures c ↔
      (f.index = 0 ∧ ∃ bad : Prop, (f.detail, bad) ∈ [
        (611, ¬within 1 255 c.debounce),
        (612, (∃ k, c.role = .unknown k) ∨ ¬within (-600) 0 c.quietCeiling ∨ ¬within 1 1000 c.holdLimit ∨ ¬within 10 10000 c.waitLimit),
        (613, (c.role = .first ∨ c.role = .member) ∧ c.waitLimit ≤ c.holdLimit),
        (614, 3 < c.guardExponent ∨ ¬within 1 4 c.guardDebounce ∨ ¬within (-1500) 0 c.normalThreshold ∨
          ¬within (-1500) 0 c.quietThreshold),
        (615, ¬within (-1200) (-400) c.silenceFloor ∨ ¬within (-1200) (-400) c.currentFloor),
        (617, ¬within 16 64 c.yieldWindow ∨ 64 < c.yieldThreshold ∨ c.yieldWindow < c.yieldThreshold ∨ 15 < c.failLimit),
        (618, c.baud ∉ [9600, 19200, 38400, 57600, 115200] ∨ ¬within 1 255 c.replyTimeout),
        (619, ¬within 1 60 c.stallLimit),
        (620, ∃ k, .unknown k ∈ [c.actionTimeout, c.actionDuplicate, c.actionMarker, c.actionStall])] ∧ bad) ∨
      ∃ n : NestId, f.index = n.val ∧
        (f.detail = 615 ∧ (∃ k, c.stepReport[n] = .unknown k) ∨ f.detail = 616 ∧ 7 < c.defaultPlan[n])

/-- CLEAR_FAULT and RESET_PART: the refusals, what CLEAR_FAULT clears, and the state that RESET_PART leaves, which is that of the release of
RESET_N but for the tables, the Lot Record, the Fault History and count, the sync state and the message in sending. The equality with the fresh
state also asserts the model's choices for fields without a stated reset value (log entry 16: the marker rate, limit and frame, a nest's
frame count, peak, overload flag and last frame, the overload flags and whether drive was sent, and the upstream frame, which is kept), and
MODE_CHANGED is handed over before the reply (log entry 11); both are DESIGN CHOICE. -/
def Obligations.ClearFaultAndResetPart : Prop :=
  ∀ (tag : Byte) (s : State), Serving s →
    let cleared := { s with
      run := { s.run with latched := Vector.replicate 5 false, first := none }
      marker := { s.marker with hold := false } }
    (s.conv.inSync = false → exec (.clearFault tag) s = .next (settle (s.withReply tag .conditionPresent .none))) ∧
    (s.conv.inSync = true → s.run.mode ≠ .stopped → exec (.clearFault tag) s = .next (settle (cleared.withReply tag .ok .none))) ∧
    (s.conv.inSync = true → s.run.mode = .stopped →
      exec (.clearFault tag) s = .next (settle ((cleared.withMode .standby .clearFault).withReply tag .ok .none))) ∧
    (s.inputs.engEnable.debounced = false → exec (.resetPart tag) s = .next (settle (s.withReply tag .notPermitted .none))) ∧
    (s.inputs.engEnable.debounced = true →
      let fresh := State.powerOn
        ⟨s.inputs.present.map (·.level), s.inputs.clamp.map (·.level), s.inputs.engEnable.level, s.inputs.alertClr.level,
          s.inputs.markerReady.level⟩ s.pending
      exec (.resetPart tag) s = .next (settle (({ fresh with
        tables := s.tables
        lot := { fresh.lot with
          isOpen := s.lot.isOpen, lotId := s.lot.lotId, serialPrefix := s.lot.serialPrefix, nextSerial := s.lot.nextSerial
          exhausted := s.lot.exhausted, counts := s.lot.counts }
        run := { fresh.run with history := s.run.history, count := s.run.count }
        conv := { fresh.conv with inSync := s.conv.inSync }
        port := { fresh.port with sending := s.port.sending, upstream := s.port.upstream } } : State).withReply tag .ok .none)))

/-! ## The ports (chapter 11) -/

/-- WRITE_TABLE and READ_TABLE. A write is refused for an unknown table, and outside TAP for the access level, the mode, a validation in
flight and an entry that does not fit, in this order; an accepted one stores its entry and clears the validation mark, which a TAP write
leaves. A PLAN write without a record and a CALIBRATION record out of its storage ranges do not fit (log entry 17, DEDUCED), and the holds
that a CONFIGURATION write completes are taken in the order of log entry 19 (DESIGN CHOICE). A read answers the entry as stored and changes
nothing else. -/
def Obligations.TableCommands : Prop :=
  ∀ (tag : Byte) (s : State), Serving s →
    let ok := fun (u : State) => (.next : State → Result) (settle (u.withReply tag .ok .none))
    let refused := fun c => (.next : State → Result) (settle (s.withReply tag c .none))
    (∀ k, exec (.writeTable tag (.unknown k)) s = refused .badArgument) ∧
    (∀ i r, i < 8 → exec (.writeTable tag (.tap i (some (.known r)))) s = ok (s.setTables { s.tables with taps := s.tables.taps.set! i r })) ∧
    (∀ i, i < 8 → exec (.writeTable tag (.tap i none)) s = ok (s.setTables { s.tables with taps := s.tables.taps.set! i .none })) ∧
    (∀ i r, 8 ≤ i → exec (.writeTable tag (.tap i r)) s = refused .badArgument) ∧
    (∀ i k, exec (.writeTable tag (.tap i (some (.unknown k)))) s = refused .badArgument) ∧
    (∀ w : TableWrite, (∀ i r, w ≠ .tap i r) → (∀ k, w ≠ .unknown k) →
      (s.inputs.engEnable.debounced = false → exec (.writeTable tag w) s = refused .notPermitted) ∧
      (s.inputs.engEnable.debounced = true → s.run.mode ≠ .standby → exec (.writeTable tag w) s = refused .wrongMode) ∧
      (s.inputs.engEnable.debounced = true → s.run.mode = .standby → s.run.validation ≠ none →
        exec (.writeTable tag w) s = refused .busy) ∧
      (s.inputs.engEnable.debounced = true → s.run.mode = .standby → s.run.validation = none →
        (storeEntry s.tables w = none → exec (.writeTable tag w) s = refused .badArgument) ∧
        ∀ t, storeEntry s.tables w = some t →
          let stored := (s.setTables t).setRun { s.run with mark := false }
          exec (.writeTable tag w) s = ok (match w with
            | .configuration _ _ => completeHolds stored
            | _ => stored))) ∧
    (∀ t : Tables,
      (∀ i r, storeEntry t (.segment i r) = if i < 128 then some { t with segments := t.segments.set! i r } else none) ∧
      (∀ i p, storeEntry t (.plan i (some p)) =
        if i < 8 ∧ p.entries.length ≤ 32 then some { t with plans := t.plans.set! i p } else none) ∧
      (∀ i m, storeEntry t (.mask i (some m)) =
        if i < 16 ∧ m.points.length ≤ 32 then some { t with masks := t.masks.set! i (some m) } else none) ∧
      (∀ i g, storeEntry t (.grade i (some g)) =
        if i < 16 ∧ g.conditions.length ≤ 3 then some { t with grades := t.grades.set! i (some g) } else none) ∧
      (∀ i fs, storeEntry t (.labelTemplate i (some (fs.map .known))) =
        if i < 8 ∧ fs.length ≤ 12 ∧ (fs.all fun | .literal x => decide (x.length ≤ 8) | _ => true) = true then some { t with templates := t.templates.set! i (some fs) }
        else none) ∧
      (∀ i fs k, .unknown k ∈ fs → storeEntry t (.labelTemplate i (some fs)) = none) ∧
      (∀ i, storeEntry t (.mask i none) = (if i < 16 then some { t with masks := t.masks.set! i none } else none) ∧
        storeEntry t (.grade i none) = (if i < 16 then some { t with grades := t.grades.set! i none } else none) ∧
        storeEntry t (.labelTemplate i none) = (if i < 8 then some { t with templates := t.templates.set! i none } else none) ∧
        storeEntry t (.calibration i none) = (if i < 4 then some { t with calibration := t.calibration.set! i none } else none) ∧
        storeEntry t (.plan i none) = none ∧ storeEntry t (.configuration i none) = none) ∧
      (∀ i c, storeEntry t (.calibration i (some c)) =
        if i < 4 ∧ -32768 ≤ c.micOffset ∧ c.micOffset ≤ 32767 ∧ c.scale ≤ 65535 then some { t with calibration := t.calibration.set! i (some c) } else none) ∧
      ∀ i c, storeEntry t (.configuration i (some c)) = if i = 0 then some { t with config := c } else none) ∧
    ∀ (id : TableId) (i : Nat),
      let entry : Option TableEntry := match id with
        | .segment => s.tables.segments[i]?.map .segment
        | .plan => s.tables.plans[i]?.map .plan
        | .mask => s.tables.masks[i]?.map .mask
        | .grade => s.tables.grades[i]?.map .grade
        | .labelTemplate => s.tables.templates[i]?.map .labelTemplate
        | .calibration => s.tables.calibration[i]?.map .calibration
        | .configuration => if i = 0 then some (.configuration s.tables.config) else none
        | .tap => s.tables.taps[i]?.map .tap
        | .unknown _ => none
      exec (.readTable tag id i) s = .next (settle (match entry with
        | some e => s.withReply tag .ok (.entry e)
        | none => s.withReply tag .badArgument .none))

/-- The reading commands change nothing but the Result Queue, where their reply joins with the fields of its table; and the five commands on the
sets of notice kinds add or remove exactly the kinds they name, or are refused for an unknown kind and change no set. In the READ_STATUS
reply the two counts of the watch list (log entry 30), the nests that count as waiting for their reservation (log entry 32), the validation
state without its tag (log entry 34) and the frame number of the next frame event (log entry 20) are the model's choice, and so is the
disposition in the READ_NEST reply without the copy of the template's fields (log entry 36). -/
def Obligations.PortCommands : Prop :=
  (∀ (tag : Byte) (s : State), Serving s → Quiescent s →
    exec (.readStatus tag) s = .next (s.withReply tag .ok (.status
      { mode := s.run.mode, mark := s.run.mark, validating := s.run.validation.isSome, latched := s.run.latched
        following := ⟨s.conv.inSync, s.inputs.markerReady.debounced, s.permit.held, s.lot.yieldLow⟩
        inSync := s.conv.inSync, engineer := s.inputs.engEnable.debounced, holdOff := s.port.holdOff
        bufferCount := s.port.buffer.length, resultCount := s.port.results.length
        nonReplyCount := (s.port.results.filter fun
          | .reply _ => false
          | _ => true).length
        waitingReply := s.port.waiting.isSome, unreported := s.port.unreported
        badFrames := s.port.badFrames, badMessages := s.port.badMessages, discarded := s.port.discarded, dropped := s.port.dropped
        noticeEnable := s.port.noticeEnable, alertEnable := s.port.alertEnable, alertPending := s.port.alertPending
        alertLevel := decide (∃ k : Fin 8, s.port.alertPending[k] = true ∧ s.port.alertEnable[k] = true)
        role := s.tables.config.role, permitHeld := s.permit.held, quietQueue := s.arbiter.queue, quietHolder := s.arbiter.holder
        gateOpen := decide (s.arbiter.holder = none ∧ (s.arbiter.queue = [] ∨ permitAvailable s = false))
        holdTimerRuns := s.permit.holdTimer.isSome, waitTimerRuns := s.permit.waitTimer.isSome
        freePairs := s.bank.free, allocQueue := s.bank.queue, closeWait := s.store.closeWait
        freeRecords := s.store.free, inGuardHold := s.store.guardHold.length, inJudgeQueue := s.store.judgeQueue.length
        inComputation := s.store.computing.toList.length, frameNumber := s.conv.frameNumber
        guardExponent := s.tables.config.guardExponent, guardDebounce := s.tables.config.guardDebounce, lastBlock := s.guard.last
        normal := s.guard.normal, quiet := s.guard.quiet
        watchEntries := s.guard.watch.length, watchMarks := s.guard.watch.countP (·.mark)
        labelCount := s.marker.labels.length, headLabel := s.marker.labels.head?.map fun l => (l.serial, l.nest)
        sendState := s.marker.send, retryCount := s.marker.retry, markerHold := s.marker.hold
        waiting := s.disposing.filterMap fun n => (s.nest n).record.bind fun r =>
          if r.pending = 0 then some ⟨n, match r.disposition with
            | some d => d.template.isSome
            | none => false⟩
          else none })) ∧
    exec (.readLot tag) s = .next (s.withReply tag .ok (.lot
      ⟨s.lot.isOpen, s.lot.lotId, s.lot.serialPrefix, s.lot.nextSerial, s.lot.exhausted, s.lot.counts, s.lot.settings,
        s.lot.outcomes.length, s.lot.passCount, s.lot.yieldLow, s.lot.outcomes, s.lot.fails, s.lot.alerts⟩)) ∧
    exec (.readFaults tag) s = .next (s.withReply tag .ok (.faults
      ⟨s.run.latched, ⟨s.conv.inSync, s.inputs.markerReady.debounced, s.permit.held, s.lot.yieldLow⟩, s.run.first, s.run.count,
        s.run.history⟩)) ∧
    ∀ nest : Nat, (3 < nest → exec (.readNest tag nest) s = .next (s.withReply tag .badArgument .none)) ∧
      ∀ n : NestId, n.val = nest → exec (.readNest tag nest) s = .next (s.withReply tag .ok (.nest
        { state := (s.nest n).state, phase := (s.nest n).phase, present := s.inputs.present[n].debounced
          clamped := s.inputs.clamp[n].debounced, pass := (s.nest n).pass, reject := (s.nest n).reject
          gone := decide ((s.nest n).gone = true ∧ (s.nest n).state = .disposing), alert := s.lot.alerts[n], fails := s.lot.fails[n]
          unit := (s.nest n).record.map fun r =>
            { serial := r.serial, prior := r.prior, plan := r.plan, position := r.position, retriesUsed := r.retriesUsed
              pending := r.pending, retryCount := r.retryList.length, stored := r.findings.length, overflow := r.overflow
              tally := r.tally, disposition := r.disposition.map fun d => (d.code, d.name, d.bin, d.template)
              abort := r.abort } }))) ∧
  ∀ (tag : Byte) (kinds : List NoticeArg) (s : State), Serving s →
    let refused := (.next : State → Result) (settle (s.withReply tag .badArgument .none))
    let ok := fun p : Port => (.next : State → Result) (settle ((s.setPort p).withReply tag .ok .none))
    let added := fun x y : NoticeSet => ∀ k : NoticeKind, y[noticeIndex k] = (x[noticeIndex k] || decide (.known k ∈ kinds))
    let removed := fun x y : NoticeSet => ∀ k : NoticeKind, y[noticeIndex k] = (x[noticeIndex k] && !decide (.known k ∈ kinds))
    (∀ code, .unknown code ∈ kinds → exec (.setNotices tag kinds) s = refused ∧ exec (.clearNotices tag kinds) s = refused ∧
      exec (.setAlerts tag kinds) s = refused ∧ exec (.clearAlerts tag kinds) s = refused ∧ exec (.ackAlerts tag kinds) s = refused) ∧
    ((∀ code, .unknown code ∉ kinds) →
      (∃ x, added s.port.noticeEnable x ∧ exec (.setNotices tag kinds) s = ok { s.port with noticeEnable := x }) ∧
      (∃ x, removed s.port.noticeEnable x ∧ exec (.clearNotices tag kinds) s = ok { s.port with noticeEnable := x }) ∧
      (∃ x, added s.port.alertEnable x ∧ exec (.setAlerts tag kinds) s = ok { s.port with alertEnable := x }) ∧
      (∃ x, removed s.port.alertEnable x ∧ exec (.clearAlerts tag kinds) s = ok { s.port with alertEnable := x }) ∧
      ∃ x, removed s.port.alertPending x ∧ exec (.ackAlerts tag kinds) s = ok { s.port with alertPending := x })

/-- The arrival of a message of the station controller: taken in the same event by a port that serves, else kept in the Command Buffer, else
discarded and counted. A message of a type that is no command, 1 to 21, is answered UNKNOWN_COMMAND; a payload for a command without fields,
and one that does not decode to a command of its type, is malformed and answered BAD_ARGUMENT (the layouts are free values, log entry 4,
DESIGN CHOICE). The head command is taken when a reply slot is
available. WAITING_REPLY places the waiting reply, and REPORTS_DROPPED reports the unreported drops. A STEP_REPORT offered is placed, or
replaces the oldest one in the queue, or is dropped, the loss being counted once. And an event handed over joins the pending set, and makes a
NOTICE where its kind is enabled, placed or dropped and counted. -/
def Obligations.CommandService : Prop :=
  (∀ (i : Instr) (b : Buffered) (s : State), messageOf i = some b →
    (Serving s → exec i s = .next (settle (takeCommand b s))) ∧
    (¬Serving s → s.port.buffer.length < 4 → exec i s = .next (settle (s.setPort { s.port with buffer := s.port.buffer ++ [b] }))) ∧
    (¬Serving s → 4 ≤ s.port.buffer.length → s.port.discarded ≤ 4294967295 →
      exec i s = .next (settle (s.setPort { s.port with discarded := min 4294967295 (s.port.discarded + 1) })))) ∧
  (∀ (tag type : Byte) (s : State), Serving s →
    exec (.unknownCommand tag type) s = .next (settle (s.withReply tag .unknownCommand .none)) ∧
    arrive ⟨tag, .unknown⟩ s = s.withReply tag .unknownCommand .none ∧
    arrive ⟨tag, .malformed⟩ s = s.withReply tag .badArgument .none) ∧
  (∀ (type : Nat) (payload : List Byte),
    (type = 0 ∨ 21 < type → requestOf type payload = .unknown) ∧
    (∀ c, (type, c) ∈ [(3, Command.startRun), (4, .stopRun), (6, .resume), (11, .clearFault), (12, .resetPart), (18, .readStatus),
        (20, .readLot), (21, .readFaults)] →
      requestOf type [] = .command c ∧ (payload ≠ [] → requestOf type payload = .malformed)) ∧
    (type ∈ [1, 2, 5, 7, 8, 9, 10, 13, 14, 15, 16, 17, 19] →
      let own := fun c : Command => match c with
        | .writeTable _ => 1
        | .readTable _ _ => 2
        | .holdSmart => 5
        | .holdForce => 5
        | .newLot _ _ _ => 7
        | .startUnit _ _ _ => 8
        | .abortUnit _ => 9
        | .clearNestAlert _ => 10
        | .setNotices _ => 13
        | .clearNotices _ => 14
        | .setAlerts _ => 15
        | .clearAlerts _ => 16
        | .ackAlerts _ => 17
        | .readNest _ => 19
        | _ => 0
      requestOf type payload = match Config.decodeFields type payload with
        | some c => if own c = type then .command c else .malformed
        | none => .malformed)) ∧
  (∀ (b : Buffered) (rest : List Buffered) (s : State), s.port.buffer = b :: rest →
    (s.port.waiting = none → s.port.results.length < 48 → serve s = some (takeCommand b (s.setPort { s.port with buffer := rest }))) ∧
    (s.port.waiting ≠ none ∨ 48 ≤ s.port.results.length → serve s = none)) ∧
  (∀ (r : Reply) (s : State), s.port.waiting = some r → s.port.results.length < 48 →
    exec .waitingReply s = .next (settle (s.setPort { s.port with waiting := none, results := s.port.results ++ [.reply r] }))) ∧
  (∀ s : State, 0 < s.port.unreported → s.port.reserved = false → s.port.results.length < 44 →
    exec .reportsDropped s = .next (settle (s.setPort
      ({ s.port with unreported := 0 }.handOver (.reportsDropped s.port.unreported))))) ∧
  (∀ (x : StepReport) (p : Port), p.unreported ≤ 4294967295 → p.dropped ≤ 4294967295 →
    let lost := { p with unreported := min 4294967295 (p.unreported + 1), dropped := min 4294967295 (p.dropped + 1) }
    (p.results.length + p.reserved.toNat < 44 → p.offerStepReport x = { p with results := p.results ++ [.stepReport x] }) ∧
    (44 ≤ p.results.length + p.reserved.toNat →
      (∀ front old back, p.results = front ++ .stepReport old :: back → (∀ y, .stepReport y ∉ front) →
        p.offerStepReport x = { lost with results := front ++ back ++ [.stepReport x] }) ∧
      ((∀ y, .stepReport y ∉ p.results) → p.offerStepReport x = lost))) ∧
  ∀ (e : Event) (p : Port), p.unreported ≤ 4294967295 → p.dropped ≤ 4294967295 →
    let pended := { p with alertPending := p.alertPending.set (noticeIndex (eventKind e)) true }
    p.handOver e =
      if p.noticeEnable[noticeIndex (eventKind e)] = false then pended
      else if p.results.length + p.reserved.toNat < 44 then { pended with results := p.results ++ [.notice e] }
      else { pended with
        unreported := min 4294967295 (p.unreported + 1), dropped := min 4294967295 (p.dropped + 1) }

/-- FRAME_EVENT and REFERENCE_FRAME_EVENT: with nothing due (due events have rows of their own: log entry 6, DESIGN CHOICE), the reference clock
goes on by one frame period (log entry 5, DESIGN CHOICE), every block takes its frame and the Station Port exchanges its frames; a reference
frame comes only in LOST, with zero samples, and changes nothing in sync (log entry 8, DESIGN CHOICE); the Converter Port takes the frame's
overload flags and number. A time of the reference clock moves the input holds, the stall timers, the hold and wait timers, the reply timer
and the elapsed time of a validation, and nothing else. The downstream frame is taken before the upstream frame is composed, or after it, as
the row says (log entry 10, DESIGN CHOICE), so its HOLD_OFF bit governs this upstream frame or the next. The upstream frame has 30 bytes: eight sample slots of three bytes, each the sample that its Tap Table entry names
for this frame, most significant byte first; the status byte, with the mode, the ALERT level, PERMIT_HELD and YIELD_LOW, read before the lane
bytes (log entry 31, DESIGN CHOICE); four lane bytes; and the check of the others, a CRC-8. -/
def Obligations.FrameEvents : Prop :=
  (∀ (f : InFrame) (down : Option DownFrame) (downFirst : Bool) (s : State), NothingDue s →
    exec (.frameEvent f down downFirst) s = .next (settle (
      let after := runFrame f false (tick 1 s)
      exchange (slotBytes f (tick 1 s) after) down downFirst after))) ∧
  (∀ (down : Option DownFrame) (downFirst : Bool) (s : State), s.conv.inSync = true →
    exec (.referenceFrameEvent down downFirst) s = .next s) ∧
  (∀ (down : Option DownFrame) (downFirst : Bool) (s : State), NothingDue s → s.conv.inSync = false →
    let silent : InFrame := ⟨Vector.replicate 4 ⟨0, false⟩, Vector.replicate 4 ⟨0, false⟩, Vector.replicate 2 ⟨0, false⟩⟩
    exec (.referenceFrameEvent down downFirst) s = .next (settle (
      let after := runFrame silent true (tick 1 s)
      exchange (slotBytes silent (tick 1 s) after) down downFirst after))) ∧
  (∀ (k : Nat) (s : State),
    let held := fun x : InputState => { x with hold := x.hold.map fun t => t + k }
    let later := fun x : Timer => { x with elapsed := x.elapsed + k }
    tick k s = { s with
      inputs := ⟨s.inputs.present.map held, s.inputs.clamp.map held, held s.inputs.engEnable, held s.inputs.alertClr,
        held s.inputs.markerReady⟩
      nests := s.nests.map fun x => { x with stall := x.stall.map later }
      permit := { s.permit with holdTimer := s.permit.holdTimer.map later, waitTimer := s.permit.waitTimer.map later }
      marker := { s.marker with replyTimer := s.marker.replyTimer.map later }
      run := { s.run with validation := s.run.validation.map fun v => { v with elapsed := v.elapsed + k } } }) ∧
  (∀ (samples : List Byte) (down : Option DownFrame) (s : State),
    exchange samples down true s = sendUpstream samples (takeDownstream down s) ∧
    exchange samples down false s = takeDownstream down (sendUpstream samples s)) ∧
  (∀ (f : InFrame) (timed : Bool) (s : State),
    let c := (runFrame f timed s).conv
    c.inSync = !timed ∧ c.frameNumber = s.conv.frameNumber + 1 ∧ c.driveSent = !timed ∧
      ∀ n : NestId, c.overloads[n.val] = f.mic[n].overload ∧ c.overloads[n.val + 4] = f.cur[n].overload ∧
        c.overloads[8] = f.grd[0].overload ∧ c.overloads[9] = f.grd[1].overload) ∧
  (∀ (f : InFrame) (down : Option DownFrame) (downFirst : Bool) (s t : State),
    exec (.frameEvent f down downFirst) s = .next t → ∃ bytes : List Byte, bytes.length = 29 ∧
      t.port.upstream = bytes ++ [frameCheck bytes]) ∧
  (∀ (samples : List Byte) (s : State),
    let b1 := sendByte s
    let b2 := sendByte b1.2
    let b3 := sendByte b2.2
    let b4 := sendByte b3.2
    let bytes := samples ++ [statusByte s, b1.1, b2.1, b3.1, b4.1]
    sendUpstream samples s = b4.2.setPort { b4.2.port with upstream := bytes ++ [frameCheck bytes] }) ∧
  (∀ (f : InFrame) (before after : State), (slotBytes f before after).length = 24 ∧ ∀ k : Fin 8,
    let sample : Sample := match after.tables.taps[k] with
      | .none => 0
      | .mic n => f.mic[n].sample
      | .cur n => f.cur[n].sample
      | .grd g => f.grd[g].sample
      | .drv n => BitVec.ofInt 24 after.conv.drive[n]
      | .micGated n => if windowIsOpen (before.nest n) = true then f.mic[n].sample else 0
    ∃ b2 b1 b0 : Byte, ((slotBytes f before after).drop (3 * k.val)).take 3 = [b2, b1, b0] ∧ b2 ++ b1 ++ b0 = sample) ∧
  (∀ s : State,
    (statusByte s).extractLsb' 0 3 = (match s.run.mode with
      | .standby => 0
      | .run => 1
      | .holding => 2
      | .held => 3
      | .stopped => 4) ∧
    ((statusByte s).getLsbD 3 = true ↔ ∃ k : NoticeKind, s.port.alertPending[noticeIndex k] = true ∧
      s.port.alertEnable[noticeIndex k] = true) ∧
    (statusByte s).getLsbD 4 = s.permit.held ∧ (statusByte s).getLsbD 5 = s.lot.yieldLow ∧
    (statusByte s).getLsbD 6 = false ∧ (statusByte s).getLsbD 7 = false) ∧
  frameCheck [] = 0 ∧
  ∀ (bytes : List Byte) (b : Byte), frameCheck (bytes ++ [b]) =
    (fun c : Byte => if c.msb = true then (c <<< 1) ^^^ 7 else c <<< 1)^[8] (frameCheck bytes ^^^ b)

/-- The lanes of the Station Port. Upstream, a lane byte is the next byte of the message in sending, else filler under HOLD_OFF or with an
empty Result Queue, else the first byte of the head message, which leaves the queue. A message opens with its type, its tag (0 but for a
reply) and the length of its payload; a payload above 250 bytes goes in parts, each but the last with length byte 255 and 250 bytes, the
last with the bytes that remain, 250 for an exact multiple (log entry 33, DESIGN CHOICE). Downstream, a frame that is absent or whose check does
not match is counted and abandons the message partly assembled; a good one sets HOLD_OFF and its four lane bytes are assembled: filler, a
header, a header with a length above 250, which is counted and abandoned, and the last byte of a message, which then arrives. -/
def Obligations.LaneBytes : Prop :=
  (∀ m : Message, messageBytes m =
    let bytes := fun type tag => partsOf type tag ((Config.encodePayload m).length + 1) (Config.encodePayload m)
    match m with
    | .reply r => bytes 129 r.tag
    | .unitReport _ => bytes 130 0
    | .stepReport _ => bytes 131 0
    | .notice _ => bytes 132 0) ∧
  (∀ (type tag : Byte) (front : List (List Byte)) (last : List Byte), (∀ part ∈ front, part.length = 250) → last.length ≤ 250 →
    (last = [] → front = []) →
    let payload := front.flatten ++ last
    partsOf type tag (payload.length + 1) payload =
      (front.flatMap fun part => [type, tag, 255] ++ part) ++ [type, tag, BitVec.ofNat 8 last.length] ++ last) ∧
  (∀ s : State,
    (∀ b rest, s.port.sending = b :: rest → sendByte s = (b, s.setPort { s.port with sending := rest })) ∧
    (s.port.sending = [] → s.port.holdOff = true ∨ s.port.results = [] → sendByte s = (0, s)) ∧
    ∀ m rest, s.port.sending = [] → s.port.holdOff = false → s.port.results = m :: rest →
      sendByte s = ((messageBytes m).headD 0, settle (s.setPort { s.port with results := rest, sending := (messageBytes m).drop 1 }))) ∧
  (∀ (d : DownFrame) (s : State),
    (frameCheck [d[0], d[1], d[2], d[3], d[4]] = d[5] → takeDownstream (some d) s =
      assembleByte (assembleByte (assembleByte (assembleByte
        (s.setPort { s.port with holdOff := d[0].getLsbD 0 }) d[1]) d[2]) d[3]) d[4]) ∧
    (s.port.badFrames ≤ 4294967295 →
      let bad := s.setPort { s.port with assembly := [], badFrames := min 4294967295 (s.port.badFrames + 1) }
      takeDownstream none s = bad ∧ (frameCheck [d[0], d[1], d[2], d[3], d[4]] ≠ d[5] → takeDownstream (some d) s = bad))) ∧
  ∀ (b : Byte) (s : State),
    let kept := fun bytes : List Byte => s.setPort { s.port with assembly := bytes }
    (s.port.assembly = [] → (b = 0 → assembleByte s b = s) ∧ (b ≠ 0 → assembleByte s b = kept [b])) ∧
    (∀ type, s.port.assembly = [type] → assembleByte s b = kept [type, b]) ∧
    (∀ type tag, s.port.assembly = [type, tag] →
      (250 < b.toNat → s.port.badMessages ≤ 4294967295 → assembleByte s b =
        s.setPort { s.port with assembly := [], badMessages := min 4294967295 (s.port.badMessages + 1) }) ∧
      (1 ≤ b.toNat → b.toNat ≤ 250 → assembleByte s b = kept [type, tag, b]) ∧
      (b = 0 → assembleByte s b = settle (arrive ⟨tag, requestOf type.toNat []⟩ (kept [])))) ∧
    ∀ type tag len payload, s.port.assembly = type :: tag :: len :: payload →
      (payload.length + 1 < len.toNat → assembleByte s b = kept (type :: tag :: len :: payload ++ [b])) ∧
      (payload.length + 1 = len.toNat →
        assembleByte s b = settle (arrive ⟨tag, requestOf type.toNat (payload ++ [b])⟩ (kept [])))
end

