-- ==== Sys2Proof/Laws/State.lean ====
section
/-! SUPPORT. The updates of State, field by field: what each replaces and what it leaves, and the reading of a nest after the update of a
nest. With these no later proof unfolds a record update. -/

namespace Sys2Proof.Machine

open Sys2Proof

variable (s : State)

@[simp] theorem State.setInputs_inputs {x} : (s.setInputs x).inputs = x := rfl
@[simp] theorem State.setInputs_nests {x} : (s.setInputs x).nests = s.nests := rfl
@[simp] theorem State.setInputs_disposing {x} : (s.setInputs x).disposing = s.disposing := rfl
@[simp] theorem State.setInputs_arbiter {x} : (s.setInputs x).arbiter = s.arbiter := rfl
@[simp] theorem State.setInputs_permit {x} : (s.setInputs x).permit = s.permit := rfl
@[simp] theorem State.setInputs_bank {x} : (s.setInputs x).bank = s.bank := rfl
@[simp] theorem State.setInputs_store {x} : (s.setInputs x).store = s.store := rfl
@[simp] theorem State.setInputs_guard {x} : (s.setInputs x).guard = s.guard := rfl
@[simp] theorem State.setInputs_lot {x} : (s.setInputs x).lot = s.lot := rfl
@[simp] theorem State.setInputs_marker {x} : (s.setInputs x).marker = s.marker := rfl
@[simp] theorem State.setInputs_run {x} : (s.setInputs x).run = s.run := rfl
@[simp] theorem State.setInputs_port {x} : (s.setInputs x).port = s.port := rfl
@[simp] theorem State.setInputs_conv {x} : (s.setInputs x).conv = s.conv := rfl
@[simp] theorem State.setInputs_tables {x} : (s.setInputs x).tables = s.tables := rfl
@[simp] theorem State.setInputs_pending {x} : (s.setInputs x).pending = s.pending := rfl
@[simp] theorem State.setInputs_nest {x} (n : NestId) : (s.setInputs x).nest n = s.nest n := rfl
@[simp] theorem State.setInputs_self : s.setInputs s.inputs = s := rfl
@[simp] theorem State.setInputs_twice {x y} : (s.setInputs x).setInputs y = s.setInputs y := rfl

@[simp] theorem State.setNests_inputs {x} : (s.setNests x).inputs = s.inputs := rfl
@[simp] theorem State.setNests_nests {x} : (s.setNests x).nests = x := rfl
@[simp] theorem State.setNests_disposing {x} : (s.setNests x).disposing = s.disposing := rfl
@[simp] theorem State.setNests_arbiter {x} : (s.setNests x).arbiter = s.arbiter := rfl
@[simp] theorem State.setNests_permit {x} : (s.setNests x).permit = s.permit := rfl
@[simp] theorem State.setNests_bank {x} : (s.setNests x).bank = s.bank := rfl
@[simp] theorem State.setNests_store {x} : (s.setNests x).store = s.store := rfl
@[simp] theorem State.setNests_guard {x} : (s.setNests x).guard = s.guard := rfl
@[simp] theorem State.setNests_lot {x} : (s.setNests x).lot = s.lot := rfl
@[simp] theorem State.setNests_marker {x} : (s.setNests x).marker = s.marker := rfl
@[simp] theorem State.setNests_run {x} : (s.setNests x).run = s.run := rfl
@[simp] theorem State.setNests_port {x} : (s.setNests x).port = s.port := rfl
@[simp] theorem State.setNests_conv {x} : (s.setNests x).conv = s.conv := rfl
@[simp] theorem State.setNests_tables {x} : (s.setNests x).tables = s.tables := rfl
@[simp] theorem State.setNests_pending {x} : (s.setNests x).pending = s.pending := rfl
@[simp] theorem State.setNests_self : s.setNests s.nests = s := rfl
@[simp] theorem State.setNests_twice {x y} : (s.setNests x).setNests y = s.setNests y := rfl

@[simp] theorem State.setDisposing_inputs {x} : (s.setDisposing x).inputs = s.inputs := rfl
@[simp] theorem State.setDisposing_nests {x} : (s.setDisposing x).nests = s.nests := rfl
@[simp] theorem State.setDisposing_disposing {x} : (s.setDisposing x).disposing = x := rfl
@[simp] theorem State.setDisposing_arbiter {x} : (s.setDisposing x).arbiter = s.arbiter := rfl
@[simp] theorem State.setDisposing_permit {x} : (s.setDisposing x).permit = s.permit := rfl
@[simp] theorem State.setDisposing_bank {x} : (s.setDisposing x).bank = s.bank := rfl
@[simp] theorem State.setDisposing_store {x} : (s.setDisposing x).store = s.store := rfl
@[simp] theorem State.setDisposing_guard {x} : (s.setDisposing x).guard = s.guard := rfl
@[simp] theorem State.setDisposing_lot {x} : (s.setDisposing x).lot = s.lot := rfl
@[simp] theorem State.setDisposing_marker {x} : (s.setDisposing x).marker = s.marker := rfl
@[simp] theorem State.setDisposing_run {x} : (s.setDisposing x).run = s.run := rfl
@[simp] theorem State.setDisposing_port {x} : (s.setDisposing x).port = s.port := rfl
@[simp] theorem State.setDisposing_conv {x} : (s.setDisposing x).conv = s.conv := rfl
@[simp] theorem State.setDisposing_tables {x} : (s.setDisposing x).tables = s.tables := rfl
@[simp] theorem State.setDisposing_pending {x} : (s.setDisposing x).pending = s.pending := rfl
@[simp] theorem State.setDisposing_nest {x} (n : NestId) : (s.setDisposing x).nest n = s.nest n := rfl
@[simp] theorem State.setDisposing_self : s.setDisposing s.disposing = s := rfl
@[simp] theorem State.setDisposing_twice {x y} : (s.setDisposing x).setDisposing y = s.setDisposing y := rfl

@[simp] theorem State.setArbiter_inputs {x} : (s.setArbiter x).inputs = s.inputs := rfl
@[simp] theorem State.setArbiter_nests {x} : (s.setArbiter x).nests = s.nests := rfl
@[simp] theorem State.setArbiter_disposing {x} : (s.setArbiter x).disposing = s.disposing := rfl
@[simp] theorem State.setArbiter_arbiter {x} : (s.setArbiter x).arbiter = x := rfl
@[simp] theorem State.setArbiter_permit {x} : (s.setArbiter x).permit = s.permit := rfl
@[simp] theorem State.setArbiter_bank {x} : (s.setArbiter x).bank = s.bank := rfl
@[simp] theorem State.setArbiter_store {x} : (s.setArbiter x).store = s.store := rfl
@[simp] theorem State.setArbiter_guard {x} : (s.setArbiter x).guard = s.guard := rfl
@[simp] theorem State.setArbiter_lot {x} : (s.setArbiter x).lot = s.lot := rfl
@[simp] theorem State.setArbiter_marker {x} : (s.setArbiter x).marker = s.marker := rfl
@[simp] theorem State.setArbiter_run {x} : (s.setArbiter x).run = s.run := rfl
@[simp] theorem State.setArbiter_port {x} : (s.setArbiter x).port = s.port := rfl
@[simp] theorem State.setArbiter_conv {x} : (s.setArbiter x).conv = s.conv := rfl
@[simp] theorem State.setArbiter_tables {x} : (s.setArbiter x).tables = s.tables := rfl
@[simp] theorem State.setArbiter_pending {x} : (s.setArbiter x).pending = s.pending := rfl
@[simp] theorem State.setArbiter_nest {x} (n : NestId) : (s.setArbiter x).nest n = s.nest n := rfl
@[simp] theorem State.setArbiter_self : s.setArbiter s.arbiter = s := rfl
@[simp] theorem State.setArbiter_twice {x y} : (s.setArbiter x).setArbiter y = s.setArbiter y := rfl

@[simp] theorem State.setPermit_inputs {x} : (s.setPermit x).inputs = s.inputs := rfl
@[simp] theorem State.setPermit_nests {x} : (s.setPermit x).nests = s.nests := rfl
@[simp] theorem State.setPermit_disposing {x} : (s.setPermit x).disposing = s.disposing := rfl
@[simp] theorem State.setPermit_arbiter {x} : (s.setPermit x).arbiter = s.arbiter := rfl
@[simp] theorem State.setPermit_permit {x} : (s.setPermit x).permit = x := rfl
@[simp] theorem State.setPermit_bank {x} : (s.setPermit x).bank = s.bank := rfl
@[simp] theorem State.setPermit_store {x} : (s.setPermit x).store = s.store := rfl
@[simp] theorem State.setPermit_guard {x} : (s.setPermit x).guard = s.guard := rfl
@[simp] theorem State.setPermit_lot {x} : (s.setPermit x).lot = s.lot := rfl
@[simp] theorem State.setPermit_marker {x} : (s.setPermit x).marker = s.marker := rfl
@[simp] theorem State.setPermit_run {x} : (s.setPermit x).run = s.run := rfl
@[simp] theorem State.setPermit_port {x} : (s.setPermit x).port = s.port := rfl
@[simp] theorem State.setPermit_conv {x} : (s.setPermit x).conv = s.conv := rfl
@[simp] theorem State.setPermit_tables {x} : (s.setPermit x).tables = s.tables := rfl
@[simp] theorem State.setPermit_pending {x} : (s.setPermit x).pending = s.pending := rfl
@[simp] theorem State.setPermit_nest {x} (n : NestId) : (s.setPermit x).nest n = s.nest n := rfl
@[simp] theorem State.setPermit_self : s.setPermit s.permit = s := rfl
@[simp] theorem State.setPermit_twice {x y} : (s.setPermit x).setPermit y = s.setPermit y := rfl

@[simp] theorem State.setBank_inputs {x} : (s.setBank x).inputs = s.inputs := rfl
@[simp] theorem State.setBank_nests {x} : (s.setBank x).nests = s.nests := rfl
@[simp] theorem State.setBank_disposing {x} : (s.setBank x).disposing = s.disposing := rfl
@[simp] theorem State.setBank_arbiter {x} : (s.setBank x).arbiter = s.arbiter := rfl
@[simp] theorem State.setBank_permit {x} : (s.setBank x).permit = s.permit := rfl
@[simp] theorem State.setBank_bank {x} : (s.setBank x).bank = x := rfl
@[simp] theorem State.setBank_store {x} : (s.setBank x).store = s.store := rfl
@[simp] theorem State.setBank_guard {x} : (s.setBank x).guard = s.guard := rfl
@[simp] theorem State.setBank_lot {x} : (s.setBank x).lot = s.lot := rfl
@[simp] theorem State.setBank_marker {x} : (s.setBank x).marker = s.marker := rfl
@[simp] theorem State.setBank_run {x} : (s.setBank x).run = s.run := rfl
@[simp] theorem State.setBank_port {x} : (s.setBank x).port = s.port := rfl
@[simp] theorem State.setBank_conv {x} : (s.setBank x).conv = s.conv := rfl
@[simp] theorem State.setBank_tables {x} : (s.setBank x).tables = s.tables := rfl
@[simp] theorem State.setBank_pending {x} : (s.setBank x).pending = s.pending := rfl
@[simp] theorem State.setBank_nest {x} (n : NestId) : (s.setBank x).nest n = s.nest n := rfl
@[simp] theorem State.setBank_self : s.setBank s.bank = s := rfl
@[simp] theorem State.setBank_twice {x y} : (s.setBank x).setBank y = s.setBank y := rfl

@[simp] theorem State.setStore_inputs {x} : (s.setStore x).inputs = s.inputs := rfl
@[simp] theorem State.setStore_nests {x} : (s.setStore x).nests = s.nests := rfl
@[simp] theorem State.setStore_disposing {x} : (s.setStore x).disposing = s.disposing := rfl
@[simp] theorem State.setStore_arbiter {x} : (s.setStore x).arbiter = s.arbiter := rfl
@[simp] theorem State.setStore_permit {x} : (s.setStore x).permit = s.permit := rfl
@[simp] theorem State.setStore_bank {x} : (s.setStore x).bank = s.bank := rfl
@[simp] theorem State.setStore_store {x} : (s.setStore x).store = x := rfl
@[simp] theorem State.setStore_guard {x} : (s.setStore x).guard = s.guard := rfl
@[simp] theorem State.setStore_lot {x} : (s.setStore x).lot = s.lot := rfl
@[simp] theorem State.setStore_marker {x} : (s.setStore x).marker = s.marker := rfl
@[simp] theorem State.setStore_run {x} : (s.setStore x).run = s.run := rfl
@[simp] theorem State.setStore_port {x} : (s.setStore x).port = s.port := rfl
@[simp] theorem State.setStore_conv {x} : (s.setStore x).conv = s.conv := rfl
@[simp] theorem State.setStore_tables {x} : (s.setStore x).tables = s.tables := rfl
@[simp] theorem State.setStore_pending {x} : (s.setStore x).pending = s.pending := rfl
@[simp] theorem State.setStore_nest {x} (n : NestId) : (s.setStore x).nest n = s.nest n := rfl
@[simp] theorem State.setStore_self : s.setStore s.store = s := rfl
@[simp] theorem State.setStore_twice {x y} : (s.setStore x).setStore y = s.setStore y := rfl

@[simp] theorem State.setGuard_inputs {x} : (s.setGuard x).inputs = s.inputs := rfl
@[simp] theorem State.setGuard_nests {x} : (s.setGuard x).nests = s.nests := rfl
@[simp] theorem State.setGuard_disposing {x} : (s.setGuard x).disposing = s.disposing := rfl
@[simp] theorem State.setGuard_arbiter {x} : (s.setGuard x).arbiter = s.arbiter := rfl
@[simp] theorem State.setGuard_permit {x} : (s.setGuard x).permit = s.permit := rfl
@[simp] theorem State.setGuard_bank {x} : (s.setGuard x).bank = s.bank := rfl
@[simp] theorem State.setGuard_store {x} : (s.setGuard x).store = s.store := rfl
@[simp] theorem State.setGuard_guard {x} : (s.setGuard x).guard = x := rfl
@[simp] theorem State.setGuard_lot {x} : (s.setGuard x).lot = s.lot := rfl
@[simp] theorem State.setGuard_marker {x} : (s.setGuard x).marker = s.marker := rfl
@[simp] theorem State.setGuard_run {x} : (s.setGuard x).run = s.run := rfl
@[simp] theorem State.setGuard_port {x} : (s.setGuard x).port = s.port := rfl
@[simp] theorem State.setGuard_conv {x} : (s.setGuard x).conv = s.conv := rfl
@[simp] theorem State.setGuard_tables {x} : (s.setGuard x).tables = s.tables := rfl
@[simp] theorem State.setGuard_pending {x} : (s.setGuard x).pending = s.pending := rfl
@[simp] theorem State.setGuard_nest {x} (n : NestId) : (s.setGuard x).nest n = s.nest n := rfl
@[simp] theorem State.setGuard_self : s.setGuard s.guard = s := rfl
@[simp] theorem State.setGuard_twice {x y} : (s.setGuard x).setGuard y = s.setGuard y := rfl

@[simp] theorem State.setLot_inputs {x} : (s.setLot x).inputs = s.inputs := rfl
@[simp] theorem State.setLot_nests {x} : (s.setLot x).nests = s.nests := rfl
@[simp] theorem State.setLot_disposing {x} : (s.setLot x).disposing = s.disposing := rfl
@[simp] theorem State.setLot_arbiter {x} : (s.setLot x).arbiter = s.arbiter := rfl
@[simp] theorem State.setLot_permit {x} : (s.setLot x).permit = s.permit := rfl
@[simp] theorem State.setLot_bank {x} : (s.setLot x).bank = s.bank := rfl
@[simp] theorem State.setLot_store {x} : (s.setLot x).store = s.store := rfl
@[simp] theorem State.setLot_guard {x} : (s.setLot x).guard = s.guard := rfl
@[simp] theorem State.setLot_lot {x} : (s.setLot x).lot = x := rfl
@[simp] theorem State.setLot_marker {x} : (s.setLot x).marker = s.marker := rfl
@[simp] theorem State.setLot_run {x} : (s.setLot x).run = s.run := rfl
@[simp] theorem State.setLot_port {x} : (s.setLot x).port = s.port := rfl
@[simp] theorem State.setLot_conv {x} : (s.setLot x).conv = s.conv := rfl
@[simp] theorem State.setLot_tables {x} : (s.setLot x).tables = s.tables := rfl
@[simp] theorem State.setLot_pending {x} : (s.setLot x).pending = s.pending := rfl
@[simp] theorem State.setLot_nest {x} (n : NestId) : (s.setLot x).nest n = s.nest n := rfl
@[simp] theorem State.setLot_self : s.setLot s.lot = s := rfl
@[simp] theorem State.setLot_twice {x y} : (s.setLot x).setLot y = s.setLot y := rfl

@[simp] theorem State.setMarker_inputs {x} : (s.setMarker x).inputs = s.inputs := rfl
@[simp] theorem State.setMarker_nests {x} : (s.setMarker x).nests = s.nests := rfl
@[simp] theorem State.setMarker_disposing {x} : (s.setMarker x).disposing = s.disposing := rfl
@[simp] theorem State.setMarker_arbiter {x} : (s.setMarker x).arbiter = s.arbiter := rfl
@[simp] theorem State.setMarker_permit {x} : (s.setMarker x).permit = s.permit := rfl
@[simp] theorem State.setMarker_bank {x} : (s.setMarker x).bank = s.bank := rfl
@[simp] theorem State.setMarker_store {x} : (s.setMarker x).store = s.store := rfl
@[simp] theorem State.setMarker_guard {x} : (s.setMarker x).guard = s.guard := rfl
@[simp] theorem State.setMarker_lot {x} : (s.setMarker x).lot = s.lot := rfl
@[simp] theorem State.setMarker_marker {x} : (s.setMarker x).marker = x := rfl
@[simp] theorem State.setMarker_run {x} : (s.setMarker x).run = s.run := rfl
@[simp] theorem State.setMarker_port {x} : (s.setMarker x).port = s.port := rfl
@[simp] theorem State.setMarker_conv {x} : (s.setMarker x).conv = s.conv := rfl
@[simp] theorem State.setMarker_tables {x} : (s.setMarker x).tables = s.tables := rfl
@[simp] theorem State.setMarker_pending {x} : (s.setMarker x).pending = s.pending := rfl
@[simp] theorem State.setMarker_nest {x} (n : NestId) : (s.setMarker x).nest n = s.nest n := rfl
@[simp] theorem State.setMarker_self : s.setMarker s.marker = s := rfl
@[simp] theorem State.setMarker_twice {x y} : (s.setMarker x).setMarker y = s.setMarker y := rfl

@[simp] theorem State.setRun_inputs {x} : (s.setRun x).inputs = s.inputs := rfl
@[simp] theorem State.setRun_nests {x} : (s.setRun x).nests = s.nests := rfl
@[simp] theorem State.setRun_disposing {x} : (s.setRun x).disposing = s.disposing := rfl
@[simp] theorem State.setRun_arbiter {x} : (s.setRun x).arbiter = s.arbiter := rfl
@[simp] theorem State.setRun_permit {x} : (s.setRun x).permit = s.permit := rfl
@[simp] theorem State.setRun_bank {x} : (s.setRun x).bank = s.bank := rfl
@[simp] theorem State.setRun_store {x} : (s.setRun x).store = s.store := rfl
@[simp] theorem State.setRun_guard {x} : (s.setRun x).guard = s.guard := rfl
@[simp] theorem State.setRun_lot {x} : (s.setRun x).lot = s.lot := rfl
@[simp] theorem State.setRun_marker {x} : (s.setRun x).marker = s.marker := rfl
@[simp] theorem State.setRun_run {x} : (s.setRun x).run = x := rfl
@[simp] theorem State.setRun_port {x} : (s.setRun x).port = s.port := rfl
@[simp] theorem State.setRun_conv {x} : (s.setRun x).conv = s.conv := rfl
@[simp] theorem State.setRun_tables {x} : (s.setRun x).tables = s.tables := rfl
@[simp] theorem State.setRun_pending {x} : (s.setRun x).pending = s.pending := rfl
@[simp] theorem State.setRun_nest {x} (n : NestId) : (s.setRun x).nest n = s.nest n := rfl
@[simp] theorem State.setRun_self : s.setRun s.run = s := rfl
@[simp] theorem State.setRun_twice {x y} : (s.setRun x).setRun y = s.setRun y := rfl

@[simp] theorem State.setPort_inputs {x} : (s.setPort x).inputs = s.inputs := rfl
@[simp] theorem State.setPort_nests {x} : (s.setPort x).nests = s.nests := rfl
@[simp] theorem State.setPort_disposing {x} : (s.setPort x).disposing = s.disposing := rfl
@[simp] theorem State.setPort_arbiter {x} : (s.setPort x).arbiter = s.arbiter := rfl
@[simp] theorem State.setPort_permit {x} : (s.setPort x).permit = s.permit := rfl
@[simp] theorem State.setPort_bank {x} : (s.setPort x).bank = s.bank := rfl
@[simp] theorem State.setPort_store {x} : (s.setPort x).store = s.store := rfl
@[simp] theorem State.setPort_guard {x} : (s.setPort x).guard = s.guard := rfl
@[simp] theorem State.setPort_lot {x} : (s.setPort x).lot = s.lot := rfl
@[simp] theorem State.setPort_marker {x} : (s.setPort x).marker = s.marker := rfl
@[simp] theorem State.setPort_run {x} : (s.setPort x).run = s.run := rfl
@[simp] theorem State.setPort_port {x} : (s.setPort x).port = x := rfl
@[simp] theorem State.setPort_conv {x} : (s.setPort x).conv = s.conv := rfl
@[simp] theorem State.setPort_tables {x} : (s.setPort x).tables = s.tables := rfl
@[simp] theorem State.setPort_pending {x} : (s.setPort x).pending = s.pending := rfl
@[simp] theorem State.setPort_nest {x} (n : NestId) : (s.setPort x).nest n = s.nest n := rfl
@[simp] theorem State.setPort_self : s.setPort s.port = s := rfl
@[simp] theorem State.setPort_twice {x y} : (s.setPort x).setPort y = s.setPort y := rfl

@[simp] theorem State.setConv_inputs {x} : (s.setConv x).inputs = s.inputs := rfl
@[simp] theorem State.setConv_nests {x} : (s.setConv x).nests = s.nests := rfl
@[simp] theorem State.setConv_disposing {x} : (s.setConv x).disposing = s.disposing := rfl
@[simp] theorem State.setConv_arbiter {x} : (s.setConv x).arbiter = s.arbiter := rfl
@[simp] theorem State.setConv_permit {x} : (s.setConv x).permit = s.permit := rfl
@[simp] theorem State.setConv_bank {x} : (s.setConv x).bank = s.bank := rfl
@[simp] theorem State.setConv_store {x} : (s.setConv x).store = s.store := rfl
@[simp] theorem State.setConv_guard {x} : (s.setConv x).guard = s.guard := rfl
@[simp] theorem State.setConv_lot {x} : (s.setConv x).lot = s.lot := rfl
@[simp] theorem State.setConv_marker {x} : (s.setConv x).marker = s.marker := rfl
@[simp] theorem State.setConv_run {x} : (s.setConv x).run = s.run := rfl
@[simp] theorem State.setConv_port {x} : (s.setConv x).port = s.port := rfl
@[simp] theorem State.setConv_conv {x} : (s.setConv x).conv = x := rfl
@[simp] theorem State.setConv_tables {x} : (s.setConv x).tables = s.tables := rfl
@[simp] theorem State.setConv_pending {x} : (s.setConv x).pending = s.pending := rfl
@[simp] theorem State.setConv_nest {x} (n : NestId) : (s.setConv x).nest n = s.nest n := rfl
@[simp] theorem State.setConv_self : s.setConv s.conv = s := rfl
@[simp] theorem State.setConv_twice {x y} : (s.setConv x).setConv y = s.setConv y := rfl

@[simp] theorem State.setTables_inputs {x} : (s.setTables x).inputs = s.inputs := rfl
@[simp] theorem State.setTables_nests {x} : (s.setTables x).nests = s.nests := rfl
@[simp] theorem State.setTables_disposing {x} : (s.setTables x).disposing = s.disposing := rfl
@[simp] theorem State.setTables_arbiter {x} : (s.setTables x).arbiter = s.arbiter := rfl
@[simp] theorem State.setTables_permit {x} : (s.setTables x).permit = s.permit := rfl
@[simp] theorem State.setTables_bank {x} : (s.setTables x).bank = s.bank := rfl
@[simp] theorem State.setTables_store {x} : (s.setTables x).store = s.store := rfl
@[simp] theorem State.setTables_guard {x} : (s.setTables x).guard = s.guard := rfl
@[simp] theorem State.setTables_lot {x} : (s.setTables x).lot = s.lot := rfl
@[simp] theorem State.setTables_marker {x} : (s.setTables x).marker = s.marker := rfl
@[simp] theorem State.setTables_run {x} : (s.setTables x).run = s.run := rfl
@[simp] theorem State.setTables_port {x} : (s.setTables x).port = s.port := rfl
@[simp] theorem State.setTables_conv {x} : (s.setTables x).conv = s.conv := rfl
@[simp] theorem State.setTables_tables {x} : (s.setTables x).tables = x := rfl
@[simp] theorem State.setTables_pending {x} : (s.setTables x).pending = s.pending := rfl
@[simp] theorem State.setTables_nest {x} (n : NestId) : (s.setTables x).nest n = s.nest n := rfl
@[simp] theorem State.setTables_self : s.setTables s.tables = s := rfl
@[simp] theorem State.setTables_twice {x y} : (s.setTables x).setTables y = s.setTables y := rfl

@[simp] theorem State.setPending_inputs {x} : (s.setPending x).inputs = s.inputs := rfl
@[simp] theorem State.setPending_nests {x} : (s.setPending x).nests = s.nests := rfl
@[simp] theorem State.setPending_disposing {x} : (s.setPending x).disposing = s.disposing := rfl
@[simp] theorem State.setPending_arbiter {x} : (s.setPending x).arbiter = s.arbiter := rfl
@[simp] theorem State.setPending_permit {x} : (s.setPending x).permit = s.permit := rfl
@[simp] theorem State.setPending_bank {x} : (s.setPending x).bank = s.bank := rfl
@[simp] theorem State.setPending_store {x} : (s.setPending x).store = s.store := rfl
@[simp] theorem State.setPending_guard {x} : (s.setPending x).guard = s.guard := rfl
@[simp] theorem State.setPending_lot {x} : (s.setPending x).lot = s.lot := rfl
@[simp] theorem State.setPending_marker {x} : (s.setPending x).marker = s.marker := rfl
@[simp] theorem State.setPending_run {x} : (s.setPending x).run = s.run := rfl
@[simp] theorem State.setPending_port {x} : (s.setPending x).port = s.port := rfl
@[simp] theorem State.setPending_conv {x} : (s.setPending x).conv = s.conv := rfl
@[simp] theorem State.setPending_tables {x} : (s.setPending x).tables = s.tables := rfl
@[simp] theorem State.setPending_pending {x} : (s.setPending x).pending = x := rfl
@[simp] theorem State.setPending_nest {x} (n : NestId) : (s.setPending x).nest n = s.nest n := rfl
@[simp] theorem State.setPending_self : s.setPending s.pending = s := rfl
@[simp] theorem State.setPending_twice {x y} : (s.setPending x).setPending y = s.setPending y := rfl

@[simp] theorem State.setNest_inputs {n : NestId} {x} : (s.setNest n x).inputs = s.inputs := rfl
@[simp] theorem State.modNest_inputs {n : NestId} {f} : (s.modNest n f).inputs = s.inputs := rfl
@[simp] theorem State.modRecord_inputs {n : NestId} {f} : (s.modRecord n f).inputs = s.inputs := rfl
@[simp] theorem State.setNest_disposing {n : NestId} {x} : (s.setNest n x).disposing = s.disposing := rfl
@[simp] theorem State.modNest_disposing {n : NestId} {f} : (s.modNest n f).disposing = s.disposing := rfl
@[simp] theorem State.modRecord_disposing {n : NestId} {f} : (s.modRecord n f).disposing = s.disposing := rfl
@[simp] theorem State.setNest_arbiter {n : NestId} {x} : (s.setNest n x).arbiter = s.arbiter := rfl
@[simp] theorem State.modNest_arbiter {n : NestId} {f} : (s.modNest n f).arbiter = s.arbiter := rfl
@[simp] theorem State.modRecord_arbiter {n : NestId} {f} : (s.modRecord n f).arbiter = s.arbiter := rfl
@[simp] theorem State.setNest_permit {n : NestId} {x} : (s.setNest n x).permit = s.permit := rfl
@[simp] theorem State.modNest_permit {n : NestId} {f} : (s.modNest n f).permit = s.permit := rfl
@[simp] theorem State.modRecord_permit {n : NestId} {f} : (s.modRecord n f).permit = s.permit := rfl
@[simp] theorem State.setNest_bank {n : NestId} {x} : (s.setNest n x).bank = s.bank := rfl
@[simp] theorem State.modNest_bank {n : NestId} {f} : (s.modNest n f).bank = s.bank := rfl
@[simp] theorem State.modRecord_bank {n : NestId} {f} : (s.modRecord n f).bank = s.bank := rfl
@[simp] theorem State.setNest_store {n : NestId} {x} : (s.setNest n x).store = s.store := rfl
@[simp] theorem State.modNest_store {n : NestId} {f} : (s.modNest n f).store = s.store := rfl
@[simp] theorem State.modRecord_store {n : NestId} {f} : (s.modRecord n f).store = s.store := rfl
@[simp] theorem State.setNest_guard {n : NestId} {x} : (s.setNest n x).guard = s.guard := rfl
@[simp] theorem State.modNest_guard {n : NestId} {f} : (s.modNest n f).guard = s.guard := rfl
@[simp] theorem State.modRecord_guard {n : NestId} {f} : (s.modRecord n f).guard = s.guard := rfl
@[simp] theorem State.setNest_lot {n : NestId} {x} : (s.setNest n x).lot = s.lot := rfl
@[simp] theorem State.modNest_lot {n : NestId} {f} : (s.modNest n f).lot = s.lot := rfl
@[simp] theorem State.modRecord_lot {n : NestId} {f} : (s.modRecord n f).lot = s.lot := rfl
@[simp] theorem State.setNest_marker {n : NestId} {x} : (s.setNest n x).marker = s.marker := rfl
@[simp] theorem State.modNest_marker {n : NestId} {f} : (s.modNest n f).marker = s.marker := rfl
@[simp] theorem State.modRecord_marker {n : NestId} {f} : (s.modRecord n f).marker = s.marker := rfl
@[simp] theorem State.setNest_run {n : NestId} {x} : (s.setNest n x).run = s.run := rfl
@[simp] theorem State.modNest_run {n : NestId} {f} : (s.modNest n f).run = s.run := rfl
@[simp] theorem State.modRecord_run {n : NestId} {f} : (s.modRecord n f).run = s.run := rfl
@[simp] theorem State.setNest_port {n : NestId} {x} : (s.setNest n x).port = s.port := rfl
@[simp] theorem State.modNest_port {n : NestId} {f} : (s.modNest n f).port = s.port := rfl
@[simp] theorem State.modRecord_port {n : NestId} {f} : (s.modRecord n f).port = s.port := rfl
@[simp] theorem State.setNest_conv {n : NestId} {x} : (s.setNest n x).conv = s.conv := rfl
@[simp] theorem State.modNest_conv {n : NestId} {f} : (s.modNest n f).conv = s.conv := rfl
@[simp] theorem State.modRecord_conv {n : NestId} {f} : (s.modRecord n f).conv = s.conv := rfl
@[simp] theorem State.setNest_tables {n : NestId} {x} : (s.setNest n x).tables = s.tables := rfl
@[simp] theorem State.modNest_tables {n : NestId} {f} : (s.modNest n f).tables = s.tables := rfl
@[simp] theorem State.modRecord_tables {n : NestId} {f} : (s.modRecord n f).tables = s.tables := rfl
@[simp] theorem State.setNest_pending {n : NestId} {x} : (s.setNest n x).pending = s.pending := rfl
@[simp] theorem State.modNest_pending {n : NestId} {f} : (s.modNest n f).pending = s.pending := rfl
@[simp] theorem State.modRecord_pending {n : NestId} {f} : (s.modRecord n f).pending = s.pending := rfl

/-! ## The nest of a state -/

@[simp] theorem State.setNest_nest_self (n : NestId) {x} : (s.setNest n x).nest n = x := by
  simp [State.setNest, State.nest]

@[simp] theorem State.setNest_nest_ne {n m : NestId} {x} (h : n ≠ m) : (s.setNest n x).nest m = s.nest m := by
  simp [State.setNest, State.nest, Fin.val_ne_of_ne h]

theorem State.setNest_nest (n m : NestId) {x} : (s.setNest n x).nest m = if n = m then x else s.nest m := by
  split
  · next h => subst h; simp
  · next h => simp [h]

@[simp] theorem State.modNest_nest_self (n : NestId) {f} : (s.modNest n f).nest n = f (s.nest n) := by
  simp [State.modNest]

@[simp] theorem State.modNest_nest_ne {n m : NestId} {f} (h : n ≠ m) : (s.modNest n f).nest m = s.nest m := by
  simp [State.modNest, h]

theorem State.modNest_nest (n m : NestId) {f} : (s.modNest n f).nest m = if n = m then f (s.nest m) else s.nest m := by
  split
  · next h => subst h; simp
  · next h => simp [h]

theorem State.modRecord_nest (n m : NestId) {f} :
    (s.modRecord n f).nest m = if n = m then { s.nest m with record := (s.nest m).record.map f } else s.nest m := by
  simp [State.modRecord, State.modNest_nest]

@[simp] theorem State.modRecord_nest_self (n : NestId) {f} :
    (s.modRecord n f).nest n = { s.nest n with record := (s.nest n).record.map f } := by
  simp [State.modRecord]

/-- Two updates of one nest are one update. -/
@[simp] theorem State.modNest_modNest (n : NestId) {f g} : (s.modNest n f).modNest n g = s.modNest n fun x => g (f x) := by
  unfold State.modNest
  rw [State.setNest_nest_self]
  simp [State.setNest]

/-- An update of a nest replaces the nest with its update. -/
theorem State.modNest_eq_setNest (n : NestId) {f} : s.modNest n f = s.setNest n (f (s.nest n)) := rfl

/-- The update of a nest, as a replacement in the vector of nests. -/
theorem State.modNest_def (n : NestId) {f} : s.modNest n f = s.setNests (s.nests.set n (f (s.nest n))) := rfl

end Sys2Proof.Machine
end

