-- ==== Sys2Proof/Laws/Frames.lean ====
section
/-! SUPPORT. The frame of every shared operation and event: the blocks of State that it leaves unchanged, one lemma each. -/

namespace Sys2Proof.Machine

open Sys2Proof

variable {s t : State}

/-- It changes only port. -/
@[simp] theorem handOver_frame (e : Event) :
    (handOver e s).inputs = s.inputs ∧ (handOver e s).nests = s.nests ∧ (handOver e s).disposing = s.disposing ∧ (handOver e s).arbiter = s.arbiter ∧ (handOver e s).permit = s.permit ∧ (handOver e s).bank = s.bank ∧ (handOver e s).store = s.store ∧ (handOver e s).guard = s.guard ∧ (handOver e s).lot = s.lot ∧ (handOver e s).marker = s.marker ∧ (handOver e s).run = s.run ∧ (handOver e s).conv = s.conv ∧ (handOver e s).tables = s.tables ∧ (handOver e s).pending = s.pending := by
  simp [handOver]

/-- It changes only run, port. -/
@[simp] theorem changeMode_frame (m : Mode) (c : ModeCause) :
    (changeMode m c s).inputs = s.inputs ∧ (changeMode m c s).nests = s.nests ∧ (changeMode m c s).disposing = s.disposing ∧ (changeMode m c s).arbiter = s.arbiter ∧ (changeMode m c s).permit = s.permit ∧ (changeMode m c s).bank = s.bank ∧ (changeMode m c s).store = s.store ∧ (changeMode m c s).guard = s.guard ∧ (changeMode m c s).lot = s.lot ∧ (changeMode m c s).marker = s.marker ∧ (changeMode m c s).conv = s.conv ∧ (changeMode m c s).tables = s.tables ∧ (changeMode m c s).pending = s.pending := by
  simp [changeMode]

/-- It changes only run, port. -/
@[simp] theorem recordFault_frame (k : FaultKind) (d : FaultDetail) (n : Option NestId) (a b c : Option Nat) (x : Action) :
    (recordFault k d n a b c x s).inputs = s.inputs ∧ (recordFault k d n a b c x s).nests = s.nests ∧ (recordFault k d n a b c x s).disposing = s.disposing ∧ (recordFault k d n a b c x s).arbiter = s.arbiter ∧ (recordFault k d n a b c x s).permit = s.permit ∧ (recordFault k d n a b c x s).bank = s.bank ∧ (recordFault k d n a b c x s).store = s.store ∧ (recordFault k d n a b c x s).guard = s.guard ∧ (recordFault k d n a b c x s).lot = s.lot ∧ (recordFault k d n a b c x s).marker = s.marker ∧ (recordFault k d n a b c x s).conv = s.conv ∧ (recordFault k d n a b c x s).tables = s.tables ∧ (recordFault k d n a b c x s).pending = s.pending := by
  simp [recordFault]

/-- It changes only nests. -/
@[simp] theorem enterSettle_frame (n : NestId) :
    (enterSettle n s).inputs = s.inputs ∧ (enterSettle n s).disposing = s.disposing ∧ (enterSettle n s).arbiter = s.arbiter ∧ (enterSettle n s).permit = s.permit ∧ (enterSettle n s).bank = s.bank ∧ (enterSettle n s).store = s.store ∧ (enterSettle n s).guard = s.guard ∧ (enterSettle n s).lot = s.lot ∧ (enterSettle n s).marker = s.marker ∧ (enterSettle n s).run = s.run ∧ (enterSettle n s).port = s.port ∧ (enterSettle n s).conv = s.conv ∧ (enterSettle n s).tables = s.tables ∧ (enterSettle n s).pending = s.pending := by
  simp [enterSettle]

/-- It changes only arbiter. -/
@[simp] theorem joinQuiet_frame (n : NestId) :
    (joinQuiet n s).inputs = s.inputs ∧ (joinQuiet n s).nests = s.nests ∧ (joinQuiet n s).disposing = s.disposing ∧ (joinQuiet n s).permit = s.permit ∧ (joinQuiet n s).bank = s.bank ∧ (joinQuiet n s).store = s.store ∧ (joinQuiet n s).guard = s.guard ∧ (joinQuiet n s).lot = s.lot ∧ (joinQuiet n s).marker = s.marker ∧ (joinQuiet n s).run = s.run ∧ (joinQuiet n s).port = s.port ∧ (joinQuiet n s).conv = s.conv ∧ (joinQuiet n s).tables = s.tables ∧ (joinQuiet n s).pending = s.pending := by
  simp [joinQuiet]

/-- It changes only arbiter. -/
@[simp] theorem passLoud_frame (n : NestId) :
    (passLoud n s).inputs = s.inputs ∧ (passLoud n s).nests = s.nests ∧ (passLoud n s).disposing = s.disposing ∧ (passLoud n s).permit = s.permit ∧ (passLoud n s).bank = s.bank ∧ (passLoud n s).store = s.store ∧ (passLoud n s).guard = s.guard ∧ (passLoud n s).lot = s.lot ∧ (passLoud n s).marker = s.marker ∧ (passLoud n s).run = s.run ∧ (passLoud n s).port = s.port ∧ (passLoud n s).conv = s.conv ∧ (passLoud n s).tables = s.tables ∧ (passLoud n s).pending = s.pending := by
  simp [passLoud]

/-- It changes only arbiter. -/
@[simp] theorem waitLoud_frame (n : NestId) :
    (waitLoud n s).inputs = s.inputs ∧ (waitLoud n s).nests = s.nests ∧ (waitLoud n s).disposing = s.disposing ∧ (waitLoud n s).permit = s.permit ∧ (waitLoud n s).bank = s.bank ∧ (waitLoud n s).store = s.store ∧ (waitLoud n s).guard = s.guard ∧ (waitLoud n s).lot = s.lot ∧ (waitLoud n s).marker = s.marker ∧ (waitLoud n s).run = s.run ∧ (waitLoud n s).port = s.port ∧ (waitLoud n s).conv = s.conv ∧ (waitLoud n s).tables = s.tables ∧ (waitLoud n s).pending = s.pending := by
  simp [waitLoud]

/-- It changes only nests, arbiter. -/
@[simp] theorem meetGate_frame (n : NestId) (c : StepClass) :
    (meetGate n c s).inputs = s.inputs ∧ (meetGate n c s).disposing = s.disposing ∧ (meetGate n c s).permit = s.permit ∧ (meetGate n c s).bank = s.bank ∧ (meetGate n c s).store = s.store ∧ (meetGate n c s).guard = s.guard ∧ (meetGate n c s).lot = s.lot ∧ (meetGate n c s).marker = s.marker ∧ (meetGate n c s).run = s.run ∧ (meetGate n c s).port = s.port ∧ (meetGate n c s).conv = s.conv ∧ (meetGate n c s).tables = s.tables ∧ (meetGate n c s).pending = s.pending := by
  unfold meetGate
  (repeat' split) <;> simp

/-- It changes only nests, arbiter. -/
@[simp] theorem startStep_frame (n : NestId) (st : Step) :
    (startStep n st s).inputs = s.inputs ∧ (startStep n st s).disposing = s.disposing ∧ (startStep n st s).permit = s.permit ∧ (startStep n st s).bank = s.bank ∧ (startStep n st s).store = s.store ∧ (startStep n st s).guard = s.guard ∧ (startStep n st s).lot = s.lot ∧ (startStep n st s).marker = s.marker ∧ (startStep n st s).run = s.run ∧ (startStep n st s).port = s.port ∧ (startStep n st s).conv = s.conv ∧ (startStep n st s).tables = s.tables ∧ (startStep n st s).pending = s.pending := by
  simp [startStep]

/-- It changes only nests. -/
@[simp] theorem enterFinishing_frame (n : NestId) :
    (enterFinishing n s).inputs = s.inputs ∧ (enterFinishing n s).disposing = s.disposing ∧ (enterFinishing n s).arbiter = s.arbiter ∧ (enterFinishing n s).permit = s.permit ∧ (enterFinishing n s).bank = s.bank ∧ (enterFinishing n s).store = s.store ∧ (enterFinishing n s).guard = s.guard ∧ (enterFinishing n s).lot = s.lot ∧ (enterFinishing n s).marker = s.marker ∧ (enterFinishing n s).run = s.run ∧ (enterFinishing n s).port = s.port ∧ (enterFinishing n s).conv = s.conv ∧ (enterFinishing n s).tables = s.tables ∧ (enterFinishing n s).pending = s.pending := by
  simp [enterFinishing]

/-- It changes only nests, arbiter. -/
@[simp] theorem startAt_frame (n : NestId) (r : UnitRecord) (e j : Nat) (m : Bool) :
    (startAt n r e j m s).inputs = s.inputs ∧ (startAt n r e j m s).disposing = s.disposing ∧ (startAt n r e j m s).permit = s.permit ∧ (startAt n r e j m s).bank = s.bank ∧ (startAt n r e j m s).store = s.store ∧ (startAt n r e j m s).guard = s.guard ∧ (startAt n r e j m s).lot = s.lot ∧ (startAt n r e j m s).marker = s.marker ∧ (startAt n r e j m s).run = s.run ∧ (startAt n r e j m s).port = s.port ∧ (startAt n r e j m s).conv = s.conv ∧ (startAt n r e j m s).tables = s.tables ∧ (startAt n r e j m s).pending = s.pending := by
  simp [startAt]

/-- It changes only nests, arbiter. -/
@[simp] theorem advance_frame (n : NestId) (m : Bool) :
    (advance n m s).inputs = s.inputs ∧ (advance n m s).disposing = s.disposing ∧ (advance n m s).permit = s.permit ∧ (advance n m s).bank = s.bank ∧ (advance n m s).store = s.store ∧ (advance n m s).guard = s.guard ∧ (advance n m s).lot = s.lot ∧ (advance n m s).marker = s.marker ∧ (advance n m s).run = s.run ∧ (advance n m s).port = s.port ∧ (advance n m s).conv = s.conv ∧ (advance n m s).tables = s.tables ∧ (advance n m s).pending = s.pending := by
  unfold advance
  split
  · simp
  · split
    · simp
    · simp
    · dsimp only
      split
      · simp
      · split <;> simp

/-- It changes only arbiter. -/
@[simp] theorem releaseQuiet_frame (n : NestId) :
    (releaseQuiet n s).inputs = s.inputs ∧ (releaseQuiet n s).nests = s.nests ∧ (releaseQuiet n s).disposing = s.disposing ∧ (releaseQuiet n s).permit = s.permit ∧ (releaseQuiet n s).bank = s.bank ∧ (releaseQuiet n s).store = s.store ∧ (releaseQuiet n s).guard = s.guard ∧ (releaseQuiet n s).lot = s.lot ∧ (releaseQuiet n s).marker = s.marker ∧ (releaseQuiet n s).run = s.run ∧ (releaseQuiet n s).port = s.port ∧ (releaseQuiet n s).conv = s.conv ∧ (releaseQuiet n s).tables = s.tables ∧ (releaseQuiet n s).pending = s.pending := by
  simp [releaseQuiet]

/-- It changes only bank, nests. -/
@[simp] theorem returnPairs_frame (n : NestId) :
    (returnPairs n s).inputs = s.inputs ∧ (returnPairs n s).disposing = s.disposing ∧ (returnPairs n s).arbiter = s.arbiter ∧ (returnPairs n s).permit = s.permit ∧ (returnPairs n s).store = s.store ∧ (returnPairs n s).guard = s.guard ∧ (returnPairs n s).lot = s.lot ∧ (returnPairs n s).marker = s.marker ∧ (returnPairs n s).run = s.run ∧ (returnPairs n s).port = s.port ∧ (returnPairs n s).conv = s.conv ∧ (returnPairs n s).tables = s.tables ∧ (returnPairs n s).pending = s.pending := by
  simp [returnPairs]

/-- It changes only nests, arbiter, bank. -/
@[simp] theorem endStep_frame (n : NestId) (m : Bool) :
    (endStep n m s).inputs = s.inputs ∧ (endStep n m s).disposing = s.disposing ∧ (endStep n m s).permit = s.permit ∧ (endStep n m s).store = s.store ∧ (endStep n m s).guard = s.guard ∧ (endStep n m s).lot = s.lot ∧ (endStep n m s).marker = s.marker ∧ (endStep n m s).run = s.run ∧ (endStep n m s).port = s.port ∧ (endStep n m s).conv = s.conv ∧ (endStep n m s).tables = s.tables ∧ (endStep n m s).pending = s.pending := by
  simp [endStep]

/-- It changes only guard. -/
@[simp] theorem unwatch_frame (n : NestId) :
    (unwatch n s).inputs = s.inputs ∧ (unwatch n s).nests = s.nests ∧ (unwatch n s).disposing = s.disposing ∧ (unwatch n s).arbiter = s.arbiter ∧ (unwatch n s).permit = s.permit ∧ (unwatch n s).bank = s.bank ∧ (unwatch n s).store = s.store ∧ (unwatch n s).lot = s.lot ∧ (unwatch n s).marker = s.marker ∧ (unwatch n s).run = s.run ∧ (unwatch n s).port = s.port ∧ (unwatch n s).conv = s.conv ∧ (unwatch n s).tables = s.tables ∧ (unwatch n s).pending = s.pending := by
  simp [unwatch]

/-- It changes only store, guard, nests, arbiter, bank. -/
@[simp] theorem closeWindow_frame (n : NestId) :
    (closeWindow n s).inputs = s.inputs ∧ (closeWindow n s).disposing = s.disposing ∧ (closeWindow n s).permit = s.permit ∧ (closeWindow n s).lot = s.lot ∧ (closeWindow n s).marker = s.marker ∧ (closeWindow n s).run = s.run ∧ (closeWindow n s).port = s.port ∧ (closeWindow n s).conv = s.conv ∧ (closeWindow n s).tables = s.tables ∧ (closeWindow n s).pending = s.pending := by
  unfold closeWindow
  split <;> simp

/-- It changes only guard. -/
@[simp] theorem watch_frame (n : NestId) (c : StepClass) :
    (watch n c s).inputs = s.inputs ∧ (watch n c s).nests = s.nests ∧ (watch n c s).disposing = s.disposing ∧ (watch n c s).arbiter = s.arbiter ∧ (watch n c s).permit = s.permit ∧ (watch n c s).bank = s.bank ∧ (watch n c s).store = s.store ∧ (watch n c s).lot = s.lot ∧ (watch n c s).marker = s.marker ∧ (watch n c s).run = s.run ∧ (watch n c s).port = s.port ∧ (watch n c s).conv = s.conv ∧ (watch n c s).tables = s.tables ∧ (watch n c s).pending = s.pending := by
  simp [watch]

/-- It changes only bank. -/
@[simp] theorem joinAllocation_frame (n : NestId) (k : Nat) :
    (joinAllocation n k s).inputs = s.inputs ∧ (joinAllocation n k s).nests = s.nests ∧ (joinAllocation n k s).disposing = s.disposing ∧ (joinAllocation n k s).arbiter = s.arbiter ∧ (joinAllocation n k s).permit = s.permit ∧ (joinAllocation n k s).store = s.store ∧ (joinAllocation n k s).guard = s.guard ∧ (joinAllocation n k s).lot = s.lot ∧ (joinAllocation n k s).marker = s.marker ∧ (joinAllocation n k s).run = s.run ∧ (joinAllocation n k s).port = s.port ∧ (joinAllocation n k s).conv = s.conv ∧ (joinAllocation n k s).tables = s.tables ∧ (joinAllocation n k s).pending = s.pending := by
  simp [joinAllocation]

/-- It changes only nests, bank. -/
theorem settleEnd_frame (n : NestId) (h : settleEnd n s = some t) :
    t.inputs = s.inputs ∧ t.disposing = s.disposing ∧ t.arbiter = s.arbiter ∧ t.permit = s.permit ∧ t.store = s.store ∧ t.guard = s.guard ∧ t.lot = s.lot ∧ t.marker = s.marker ∧ t.run = s.run ∧ t.port = s.port ∧ t.conv = s.conv ∧ t.tables = s.tables ∧ t.pending = s.pending := by
  revert h
  unfold settleEnd
  (repeat' split) <;> rintro ⟨⟩ <;> simp

/-- It changes only nests, bank. -/
theorem zeroSettle_frame (n : NestId) (h : zeroSettle n s = some t) :
    t.inputs = s.inputs ∧ t.disposing = s.disposing ∧ t.arbiter = s.arbiter ∧ t.permit = s.permit ∧ t.store = s.store ∧ t.guard = s.guard ∧ t.lot = s.lot ∧ t.marker = s.marker ∧ t.run = s.run ∧ t.port = s.port ∧ t.conv = s.conv ∧ t.tables = s.tables ∧ t.pending = s.pending := by
  unfold zeroSettle at h
  split at h
  · exact settleEnd_frame n h
  · cases h

/-- It changes only bank, nests, guard. -/
theorem pairGrant_frame (h : pairGrant s = some t) :
    t.inputs = s.inputs ∧ t.disposing = s.disposing ∧ t.arbiter = s.arbiter ∧ t.permit = s.permit ∧ t.store = s.store ∧ t.lot = s.lot ∧ t.marker = s.marker ∧ t.run = s.run ∧ t.port = s.port ∧ t.conv = s.conv ∧ t.tables = s.tables ∧ t.pending = s.pending := by
  revert h
  unfold pairGrant
  (repeat' split) <;> rintro ⟨⟩ <;> simp

/-- It changes only nests, guard. -/
theorem windowOpen_frame (n : NestId) (h : windowOpen n s = some t) :
    t.inputs = s.inputs ∧ t.disposing = s.disposing ∧ t.arbiter = s.arbiter ∧ t.permit = s.permit ∧ t.bank = s.bank ∧ t.store = s.store ∧ t.lot = s.lot ∧ t.marker = s.marker ∧ t.run = s.run ∧ t.port = s.port ∧ t.conv = s.conv ∧ t.tables = s.tables ∧ t.pending = s.pending := by
  revert h
  unfold windowOpen
  (repeat' split) <;> rintro ⟨⟩
  simp

/-- It changes only nests, store, guard, arbiter, bank. -/
theorem lastWindowFrame_frame (n : NestId) (h : lastWindowFrame n s = some t) :
    t.inputs = s.inputs ∧ t.disposing = s.disposing ∧ t.permit = s.permit ∧ t.lot = s.lot ∧ t.marker = s.marker ∧ t.run = s.run ∧ t.port = s.port ∧ t.conv = s.conv ∧ t.tables = s.tables ∧ t.pending = s.pending := by
  revert h
  unfold lastWindowFrame
  (repeat' split) <;> rintro ⟨⟩ <;> simp

/-- It changes only nests, store, guard, arbiter, bank. -/
theorem windowClose_frame (h : windowClose s = some t) :
    t.inputs = s.inputs ∧ t.disposing = s.disposing ∧ t.permit = s.permit ∧ t.lot = s.lot ∧ t.marker = s.marker ∧ t.run = s.run ∧ t.port = s.port ∧ t.conv = s.conv ∧ t.tables = s.tables ∧ t.pending = s.pending := by
  revert h
  unfold windowClose
  (repeat' split) <;> rintro ⟨⟩
  simp

/-- It changes only nests, arbiter, bank. -/
theorem windowlessStepEnd_frame (n : NestId) (h : windowlessStepEnd n s = some t) :
    t.inputs = s.inputs ∧ t.disposing = s.disposing ∧ t.permit = s.permit ∧ t.store = s.store ∧ t.guard = s.guard ∧ t.lot = s.lot ∧ t.marker = s.marker ∧ t.run = s.run ∧ t.port = s.port ∧ t.conv = s.conv ∧ t.tables = s.tables ∧ t.pending = s.pending := by
  revert h
  unfold windowlessStepEnd
  (repeat' split) <;> rintro ⟨⟩
  simp

/-- It changes only arbiter, nests. -/
theorem quietGrant_frame (h : quietGrant s = some t) :
    t.inputs = s.inputs ∧ t.disposing = s.disposing ∧ t.permit = s.permit ∧ t.bank = s.bank ∧ t.store = s.store ∧ t.guard = s.guard ∧ t.lot = s.lot ∧ t.marker = s.marker ∧ t.run = s.run ∧ t.port = s.port ∧ t.conv = s.conv ∧ t.tables = s.tables ∧ t.pending = s.pending := by
  revert h
  unfold quietGrant
  (repeat' split) <;> rintro ⟨⟩
  simp

/-- It changes only arbiter, nests. -/
@[simp] theorem passIfWaiting_frame (n : NestId) :
    (passIfWaiting s n).inputs = s.inputs ∧ (passIfWaiting s n).disposing = s.disposing ∧ (passIfWaiting s n).permit = s.permit ∧ (passIfWaiting s n).bank = s.bank ∧ (passIfWaiting s n).store = s.store ∧ (passIfWaiting s n).guard = s.guard ∧ (passIfWaiting s n).lot = s.lot ∧ (passIfWaiting s n).marker = s.marker ∧ (passIfWaiting s n).run = s.run ∧ (passIfWaiting s n).port = s.port ∧ (passIfWaiting s n).conv = s.conv ∧ (passIfWaiting s n).tables = s.tables ∧ (passIfWaiting s n).pending = s.pending := by
  unfold passIfWaiting
  split <;> simp

/-- It changes only arbiter, nests. -/
theorem loudGatePass_frame (h : loudGatePass s = some t) :
    t.inputs = s.inputs ∧ t.disposing = s.disposing ∧ t.permit = s.permit ∧ t.bank = s.bank ∧ t.store = s.store ∧ t.guard = s.guard ∧ t.lot = s.lot ∧ t.marker = s.marker ∧ t.run = s.run ∧ t.port = s.port ∧ t.conv = s.conv ∧ t.tables = s.tables ∧ t.pending = s.pending := by
  unfold loudGatePass at h
  split at h
  · cases h; simp [nestIds]
  · cases h

/-- It changes only permit. -/
theorem permitPass_frame (h : permitPass s = some t) :
    t.inputs = s.inputs ∧ t.nests = s.nests ∧ t.disposing = s.disposing ∧ t.arbiter = s.arbiter ∧ t.bank = s.bank ∧ t.store = s.store ∧ t.guard = s.guard ∧ t.lot = s.lot ∧ t.marker = s.marker ∧ t.run = s.run ∧ t.port = s.port ∧ t.conv = s.conv ∧ t.tables = s.tables ∧ t.pending = s.pending := by
  revert h
  unfold permitPass
  split <;> rintro ⟨⟩
  simp

/-- It changes only permit. -/
theorem waitTimerChange_frame (h : waitTimerChange s = some t) :
    t.inputs = s.inputs ∧ t.nests = s.nests ∧ t.disposing = s.disposing ∧ t.arbiter = s.arbiter ∧ t.bank = s.bank ∧ t.store = s.store ∧ t.guard = s.guard ∧ t.lot = s.lot ∧ t.marker = s.marker ∧ t.run = s.run ∧ t.port = s.port ∧ t.conv = s.conv ∧ t.tables = s.tables ∧ t.pending = s.pending := by
  revert h
  unfold waitTimerChange
  (repeat' split) <;> rintro ⟨⟩ <;> simp

/-- It changes only permit. -/
theorem holdLimitExpiry_frame (h : holdLimitExpiry s = some t) :
    t.inputs = s.inputs ∧ t.nests = s.nests ∧ t.disposing = s.disposing ∧ t.arbiter = s.arbiter ∧ t.bank = s.bank ∧ t.store = s.store ∧ t.guard = s.guard ∧ t.lot = s.lot ∧ t.marker = s.marker ∧ t.run = s.run ∧ t.port = s.port ∧ t.conv = s.conv ∧ t.tables = s.tables ∧ t.pending = s.pending := by
  revert h
  unfold holdLimitExpiry
  split <;> rintro ⟨⟩
  simp

/-- It changes only permit. -/
theorem permitPulseEnd_frame (h : permitPulseEnd s = some t) :
    t.inputs = s.inputs ∧ t.nests = s.nests ∧ t.disposing = s.disposing ∧ t.arbiter = s.arbiter ∧ t.bank = s.bank ∧ t.store = s.store ∧ t.guard = s.guard ∧ t.lot = s.lot ∧ t.marker = s.marker ∧ t.run = s.run ∧ t.port = s.port ∧ t.conv = s.conv ∧ t.tables = s.tables ∧ t.pending = s.pending := by
  revert h
  unfold permitPulseEnd
  (repeat' split) <;> rintro ⟨⟩
  simp

/-- It changes only permit. -/
theorem permitGapEnd_frame (h : permitGapEnd s = some t) :
    t.inputs = s.inputs ∧ t.nests = s.nests ∧ t.disposing = s.disposing ∧ t.arbiter = s.arbiter ∧ t.bank = s.bank ∧ t.store = s.store ∧ t.guard = s.guard ∧ t.lot = s.lot ∧ t.marker = s.marker ∧ t.run = s.run ∧ t.port = s.port ∧ t.conv = s.conv ∧ t.tables = s.tables ∧ t.pending = s.pending := by
  revert h
  unfold permitGapEnd
  (repeat' split) <;> rintro ⟨⟩ <;> simp

/-- It changes only lot, port. -/
@[simp] theorem yieldCheck_frame (v : Nat) (n : NestId) :
    (yieldCheck v n s).inputs = s.inputs ∧ (yieldCheck v n s).nests = s.nests ∧ (yieldCheck v n s).disposing = s.disposing ∧ (yieldCheck v n s).arbiter = s.arbiter ∧ (yieldCheck v n s).permit = s.permit ∧ (yieldCheck v n s).bank = s.bank ∧ (yieldCheck v n s).store = s.store ∧ (yieldCheck v n s).guard = s.guard ∧ (yieldCheck v n s).marker = s.marker ∧ (yieldCheck v n s).run = s.run ∧ (yieldCheck v n s).conv = s.conv ∧ (yieldCheck v n s).tables = s.tables ∧ (yieldCheck v n s).pending = s.pending := by
  unfold yieldCheck
  dsimp only
  (repeat' split) <;> simp

/-- It changes only lot, port. -/
@[simp] theorem failCheck_frame (n : NestId) (v c b : Nat) :
    (failCheck n v c b s).inputs = s.inputs ∧ (failCheck n v c b s).nests = s.nests ∧ (failCheck n v c b s).disposing = s.disposing ∧ (failCheck n v c b s).arbiter = s.arbiter ∧ (failCheck n v c b s).permit = s.permit ∧ (failCheck n v c b s).bank = s.bank ∧ (failCheck n v c b s).store = s.store ∧ (failCheck n v c b s).guard = s.guard ∧ (failCheck n v c b s).marker = s.marker ∧ (failCheck n v c b s).run = s.run ∧ (failCheck n v c b s).conv = s.conv ∧ (failCheck n v c b s).tables = s.tables ∧ (failCheck n v c b s).pending = s.pending := by
  unfold failCheck
  dsimp only
  split <;> simp

/-- It changes only lot, port. -/
@[simp] theorem countGraded_frame (n : NestId) (r : UnitRecord) (d : Disposition) :
    (countGraded n r d s).inputs = s.inputs ∧ (countGraded n r d s).nests = s.nests ∧ (countGraded n r d s).disposing = s.disposing ∧ (countGraded n r d s).arbiter = s.arbiter ∧ (countGraded n r d s).permit = s.permit ∧ (countGraded n r d s).bank = s.bank ∧ (countGraded n r d s).store = s.store ∧ (countGraded n r d s).guard = s.guard ∧ (countGraded n r d s).marker = s.marker ∧ (countGraded n r d s).run = s.run ∧ (countGraded n r d s).conv = s.conv ∧ (countGraded n r d s).tables = s.tables ∧ (countGraded n r d s).pending = s.pending := by
  simp [countGraded]

/-- It changes only lot. -/
@[simp] theorem countAborted_frame :
    (countAborted s).inputs = s.inputs ∧ (countAborted s).nests = s.nests ∧ (countAborted s).disposing = s.disposing ∧ (countAborted s).arbiter = s.arbiter ∧ (countAborted s).permit = s.permit ∧ (countAborted s).bank = s.bank ∧ (countAborted s).store = s.store ∧ (countAborted s).guard = s.guard ∧ (countAborted s).marker = s.marker ∧ (countAborted s).run = s.run ∧ (countAborted s).port = s.port ∧ (countAborted s).conv = s.conv ∧ (countAborted s).tables = s.tables ∧ (countAborted s).pending = s.pending := by
  simp [countAborted]

/-- It changes only port. -/
@[simp] theorem recoveredBy_frame (c : RecoveryCause) (w : Bool) :
    (recoveredBy c w s).inputs = s.inputs ∧ (recoveredBy c w s).nests = s.nests ∧ (recoveredBy c w s).disposing = s.disposing ∧ (recoveredBy c w s).arbiter = s.arbiter ∧ (recoveredBy c w s).permit = s.permit ∧ (recoveredBy c w s).bank = s.bank ∧ (recoveredBy c w s).store = s.store ∧ (recoveredBy c w s).guard = s.guard ∧ (recoveredBy c w s).lot = s.lot ∧ (recoveredBy c w s).marker = s.marker ∧ (recoveredBy c w s).run = s.run ∧ (recoveredBy c w s).conv = s.conv ∧ (recoveredBy c w s).tables = s.tables ∧ (recoveredBy c w s).pending = s.pending := by
  unfold recoveredBy
  split <;> simp

/-- It changes only lot, port. -/
@[simp] theorem openLot_frame (i p : Text) (v : Nat) :
    (openLot i p v s).inputs = s.inputs ∧ (openLot i p v s).nests = s.nests ∧ (openLot i p v s).disposing = s.disposing ∧ (openLot i p v s).arbiter = s.arbiter ∧ (openLot i p v s).permit = s.permit ∧ (openLot i p v s).bank = s.bank ∧ (openLot i p v s).store = s.store ∧ (openLot i p v s).guard = s.guard ∧ (openLot i p v s).marker = s.marker ∧ (openLot i p v s).run = s.run ∧ (openLot i p v s).conv = s.conv ∧ (openLot i p v s).tables = s.tables ∧ (openLot i p v s).pending = s.pending := by
  simp [openLot]

/-- It changes only lot, port. -/
@[simp] theorem lotRunStart_frame :
    (lotRunStart s).inputs = s.inputs ∧ (lotRunStart s).nests = s.nests ∧ (lotRunStart s).disposing = s.disposing ∧ (lotRunStart s).arbiter = s.arbiter ∧ (lotRunStart s).permit = s.permit ∧ (lotRunStart s).bank = s.bank ∧ (lotRunStart s).store = s.store ∧ (lotRunStart s).guard = s.guard ∧ (lotRunStart s).marker = s.marker ∧ (lotRunStart s).run = s.run ∧ (lotRunStart s).conv = s.conv ∧ (lotRunStart s).tables = s.tables ∧ (lotRunStart s).pending = s.pending := by
  unfold lotRunStart
  dsimp only
  split <;> simp

/-- It changes only lot, nests, arbiter. -/
@[simp] theorem startUnit_frame (n : NestId) (p : Nat) (v : Option Nat) :
    (startUnit n p v s).inputs = s.inputs ∧ (startUnit n p v s).disposing = s.disposing ∧ (startUnit n p v s).permit = s.permit ∧ (startUnit n p v s).bank = s.bank ∧ (startUnit n p v s).store = s.store ∧ (startUnit n p v s).guard = s.guard ∧ (startUnit n p v s).marker = s.marker ∧ (startUnit n p v s).run = s.run ∧ (startUnit n p v s).port = s.port ∧ (startUnit n p v s).conv = s.conv ∧ (startUnit n p v s).tables = s.tables ∧ (startUnit n p v s).pending = s.pending := by
  simp [startUnit]

/-- It changes only lot, nests, arbiter. -/
@[simp] theorem enterLoaded_frame (n : NestId) :
    (enterLoaded n s).inputs = s.inputs ∧ (enterLoaded n s).disposing = s.disposing ∧ (enterLoaded n s).permit = s.permit ∧ (enterLoaded n s).bank = s.bank ∧ (enterLoaded n s).store = s.store ∧ (enterLoaded n s).guard = s.guard ∧ (enterLoaded n s).marker = s.marker ∧ (enterLoaded n s).run = s.run ∧ (enterLoaded n s).port = s.port ∧ (enterLoaded n s).conv = s.conv ∧ (enterLoaded n s).tables = s.tables ∧ (enterLoaded n s).pending = s.pending := by
  unfold enterLoaded
  dsimp only
  split <;> simp

/-- It changes only lot, nests, arbiter. -/
@[simp] theorem enterEmpty_frame (n : NestId) :
    (enterEmpty n s).inputs = s.inputs ∧ (enterEmpty n s).disposing = s.disposing ∧ (enterEmpty n s).permit = s.permit ∧ (enterEmpty n s).bank = s.bank ∧ (enterEmpty n s).store = s.store ∧ (enterEmpty n s).guard = s.guard ∧ (enterEmpty n s).marker = s.marker ∧ (enterEmpty n s).run = s.run ∧ (enterEmpty n s).port = s.port ∧ (enterEmpty n s).conv = s.conv ∧ (enterEmpty n s).tables = s.tables ∧ (enterEmpty n s).pending = s.pending := by
  unfold enterEmpty
  dsimp only
  split <;> simp

/-- It changes only bank. -/
@[simp] theorem leaveAllocation_frame (n : NestId) :
    (leaveAllocation n s).inputs = s.inputs ∧ (leaveAllocation n s).nests = s.nests ∧ (leaveAllocation n s).disposing = s.disposing ∧ (leaveAllocation n s).arbiter = s.arbiter ∧ (leaveAllocation n s).permit = s.permit ∧ (leaveAllocation n s).store = s.store ∧ (leaveAllocation n s).guard = s.guard ∧ (leaveAllocation n s).lot = s.lot ∧ (leaveAllocation n s).marker = s.marker ∧ (leaveAllocation n s).run = s.run ∧ (leaveAllocation n s).port = s.port ∧ (leaveAllocation n s).conv = s.conv ∧ (leaveAllocation n s).tables = s.tables ∧ (leaveAllocation n s).pending = s.pending := by
  simp [leaveAllocation]

/-- It changes only store. -/
@[simp] theorem leaveCloseWait_frame (n : NestId) :
    (leaveCloseWait n s).inputs = s.inputs ∧ (leaveCloseWait n s).nests = s.nests ∧ (leaveCloseWait n s).disposing = s.disposing ∧ (leaveCloseWait n s).arbiter = s.arbiter ∧ (leaveCloseWait n s).permit = s.permit ∧ (leaveCloseWait n s).bank = s.bank ∧ (leaveCloseWait n s).guard = s.guard ∧ (leaveCloseWait n s).lot = s.lot ∧ (leaveCloseWait n s).marker = s.marker ∧ (leaveCloseWait n s).run = s.run ∧ (leaveCloseWait n s).port = s.port ∧ (leaveCloseWait n s).conv = s.conv ∧ (leaveCloseWait n s).tables = s.tables ∧ (leaveCloseWait n s).pending = s.pending := by
  simp [leaveCloseWait]

/-- It changes only store, nests. -/
@[simp] theorem dropRecords_frame (n : NestId) :
    (dropRecords n s).inputs = s.inputs ∧ (dropRecords n s).disposing = s.disposing ∧ (dropRecords n s).arbiter = s.arbiter ∧ (dropRecords n s).permit = s.permit ∧ (dropRecords n s).bank = s.bank ∧ (dropRecords n s).guard = s.guard ∧ (dropRecords n s).lot = s.lot ∧ (dropRecords n s).marker = s.marker ∧ (dropRecords n s).run = s.run ∧ (dropRecords n s).port = s.port ∧ (dropRecords n s).conv = s.conv ∧ (dropRecords n s).tables = s.tables ∧ (dropRecords n s).pending = s.pending := by
  simp [dropRecords]

/-- It changes only arbiter, bank, nests, store, guard. -/
@[simp] theorem releaseClaims_frame (n : NestId) :
    (releaseClaims n s).inputs = s.inputs ∧ (releaseClaims n s).disposing = s.disposing ∧ (releaseClaims n s).permit = s.permit ∧ (releaseClaims n s).lot = s.lot ∧ (releaseClaims n s).marker = s.marker ∧ (releaseClaims n s).run = s.run ∧ (releaseClaims n s).port = s.port ∧ (releaseClaims n s).conv = s.conv ∧ (releaseClaims n s).tables = s.tables ∧ (releaseClaims n s).pending = s.pending := by
  simp [releaseClaims]

/-- It changes only disposing. -/
@[simp] theorem joinDisposing_frame (n : NestId) :
    (joinDisposing n s).inputs = s.inputs ∧ (joinDisposing n s).nests = s.nests ∧ (joinDisposing n s).arbiter = s.arbiter ∧ (joinDisposing n s).permit = s.permit ∧ (joinDisposing n s).bank = s.bank ∧ (joinDisposing n s).store = s.store ∧ (joinDisposing n s).guard = s.guard ∧ (joinDisposing n s).lot = s.lot ∧ (joinDisposing n s).marker = s.marker ∧ (joinDisposing n s).run = s.run ∧ (joinDisposing n s).port = s.port ∧ (joinDisposing n s).conv = s.conv ∧ (joinDisposing n s).tables = s.tables ∧ (joinDisposing n s).pending = s.pending := by
  simp [joinDisposing]

/-- It changes only arbiter, bank, nests, store, guard, disposing. -/
@[simp] theorem abortUnit_frame (n : NestId) (r : AbortReason) :
    (abortUnit n r s).inputs = s.inputs ∧ (abortUnit n r s).permit = s.permit ∧ (abortUnit n r s).lot = s.lot ∧ (abortUnit n r s).marker = s.marker ∧ (abortUnit n r s).run = s.run ∧ (abortUnit n r s).port = s.port ∧ (abortUnit n r s).conv = s.conv ∧ (abortUnit n r s).tables = s.tables ∧ (abortUnit n r s).pending = s.pending := by
  unfold abortUnit
  split <;> simp

/-- It changes only arbiter, bank, nests, store, guard, disposing. -/
@[simp] theorem abortAll_frame (r : AbortReason) :
    (abortAll r s).inputs = s.inputs ∧ (abortAll r s).permit = s.permit ∧ (abortAll r s).lot = s.lot ∧ (abortAll r s).marker = s.marker ∧ (abortAll r s).run = s.run ∧ (abortAll r s).port = s.port ∧ (abortAll r s).conv = s.conv ∧ (abortAll r s).tables = s.tables ∧ (abortAll r s).pending = s.pending := by simp [abortAll, nestIds]

/-- It changes only lot, nests, arbiter. -/
@[simp] theorem loadEvent_frame (n : NestId) :
    (loadEvent n s).inputs = s.inputs ∧ (loadEvent n s).disposing = s.disposing ∧ (loadEvent n s).permit = s.permit ∧ (loadEvent n s).bank = s.bank ∧ (loadEvent n s).store = s.store ∧ (loadEvent n s).guard = s.guard ∧ (loadEvent n s).marker = s.marker ∧ (loadEvent n s).run = s.run ∧ (loadEvent n s).port = s.port ∧ (loadEvent n s).conv = s.conv ∧ (loadEvent n s).tables = s.tables ∧ (loadEvent n s).pending = s.pending := by
  unfold loadEvent
  split <;> simp

/-- It changes only arbiter, bank, nests, store, guard, disposing, lot. -/
@[simp] theorem presentFall_frame (n : NestId) :
    (presentFall n s).inputs = s.inputs ∧ (presentFall n s).permit = s.permit ∧ (presentFall n s).marker = s.marker ∧ (presentFall n s).run = s.run ∧ (presentFall n s).port = s.port ∧ (presentFall n s).conv = s.conv ∧ (presentFall n s).tables = s.tables ∧ (presentFall n s).pending = s.pending := by
  unfold presentFall
  split <;> simp

/-- It changes only arbiter, bank, nests, store, guard, disposing, lot. -/
@[simp] theorem clampFall_frame (n : NestId) :
    (clampFall n s).inputs = s.inputs ∧ (clampFall n s).permit = s.permit ∧ (clampFall n s).marker = s.marker ∧ (clampFall n s).run = s.run ∧ (clampFall n s).port = s.port ∧ (clampFall n s).conv = s.conv ∧ (clampFall n s).tables = s.tables ∧ (clampFall n s).pending = s.pending := by
  unfold clampFall
  split <;> simp

/-- It changes only arbiter, bank, nests, store, guard, disposing, lot, port. -/
@[simp] theorem deliverEdge_frame (i : Input) (b : Bool) :
    (deliverEdge i b s).inputs = s.inputs ∧ (deliverEdge i b s).permit = s.permit ∧ (deliverEdge i b s).marker = s.marker ∧ (deliverEdge i b s).run = s.run ∧ (deliverEdge i b s).conv = s.conv ∧ (deliverEdge i b s).tables = s.tables ∧ (deliverEdge i b s).pending = s.pending := by
  unfold deliverEdge
  (repeat' split) <;> simp

/-- It changes only arbiter, bank, nests, store, guard, disposing, lot, port, inputs. -/
@[simp] theorem takeEdge_frame (i : Input) :
    (takeEdge i s).permit = s.permit ∧ (takeEdge i s).marker = s.marker ∧ (takeEdge i s).run = s.run ∧ (takeEdge i s).conv = s.conv ∧ (takeEdge i s).tables = s.tables ∧ (takeEdge i s).pending = s.pending := by
  simp [takeEdge]

/-- It changes only arbiter, bank, nests, store, guard, disposing, lot, port, inputs. -/
theorem debouncedEdge_frame (i : Input) (h : debouncedEdge i s = some t) :
    t.permit = s.permit ∧ t.marker = s.marker ∧ t.run = s.run ∧ t.conv = s.conv ∧ t.tables = s.tables ∧ t.pending = s.pending := by
  revert h
  unfold debouncedEdge
  (repeat' split) <;> rintro ⟨⟩
  simp

/-- It changes only arbiter, bank, nests, store, guard, disposing, permit, run, port. -/
@[simp] theorem leaveRunning_frame (m : Mode) (c : ModeCause) :
    (leaveRunning m c s).inputs = s.inputs ∧ (leaveRunning m c s).lot = s.lot ∧ (leaveRunning m c s).marker = s.marker ∧ (leaveRunning m c s).conv = s.conv ∧ (leaveRunning m c s).tables = s.tables ∧ (leaveRunning m c s).pending = s.pending := by
  simp [leaveRunning]

/-- It changes only arbiter, bank, nests, store, guard, disposing, permit, run, port. -/
@[simp] theorem applyStop_frame (k : FaultKind) (a : Action) :
    (applyStop k a s).inputs = s.inputs ∧ (applyStop k a s).lot = s.lot ∧ (applyStop k a s).marker = s.marker ∧ (applyStop k a s).conv = s.conv ∧ (applyStop k a s).tables = s.tables ∧ (applyStop k a s).pending = s.pending := by
  unfold applyStop
  split <;> simp

/-- It changes only permit. -/
@[simp] theorem permitRunStart_frame :
    (permitRunStart s).inputs = s.inputs ∧ (permitRunStart s).nests = s.nests ∧ (permitRunStart s).disposing = s.disposing ∧ (permitRunStart s).arbiter = s.arbiter ∧ (permitRunStart s).bank = s.bank ∧ (permitRunStart s).store = s.store ∧ (permitRunStart s).guard = s.guard ∧ (permitRunStart s).lot = s.lot ∧ (permitRunStart s).marker = s.marker ∧ (permitRunStart s).run = s.run ∧ (permitRunStart s).port = s.port ∧ (permitRunStart s).conv = s.conv ∧ (permitRunStart s).tables = s.tables ∧ (permitRunStart s).pending = s.pending := by
  unfold permitRunStart
  split <;> simp

/-- It changes only conv, guard, permit, lot, run, port. -/
@[simp] theorem enterRun_frame :
    (enterRun s).inputs = s.inputs ∧ (enterRun s).nests = s.nests ∧ (enterRun s).disposing = s.disposing ∧ (enterRun s).arbiter = s.arbiter ∧ (enterRun s).bank = s.bank ∧ (enterRun s).store = s.store ∧ (enterRun s).marker = s.marker ∧ (enterRun s).tables = s.tables ∧ (enterRun s).pending = s.pending := by
  simp [enterRun]

/-- It changes only run, port. -/
theorem heldReached_frame (h : heldReached s = some t) :
    t.inputs = s.inputs ∧ t.nests = s.nests ∧ t.disposing = s.disposing ∧ t.arbiter = s.arbiter ∧ t.permit = s.permit ∧ t.bank = s.bank ∧ t.store = s.store ∧ t.guard = s.guard ∧ t.lot = s.lot ∧ t.marker = s.marker ∧ t.conv = s.conv ∧ t.tables = s.tables ∧ t.pending = s.pending := by
  revert h
  unfold heldReached
  split <;> rintro ⟨⟩
  simp

/-- It changes only arbiter, bank, nests, store, guard, disposing, permit, run, port. -/
theorem permitArrival_frame (h : permitArrival s = some t) :
    t.inputs = s.inputs ∧ t.lot = s.lot ∧ t.marker = s.marker ∧ t.conv = s.conv ∧ t.tables = s.tables ∧ t.pending = s.pending := by
  revert h
  unfold permitArrival
  (repeat' split) <;> rintro ⟨⟩ <;> simp

/-- It changes only nests, arbiter. -/
theorem retryStart_frame (n : NestId) (h : retryStart n s = some t) :
    t.inputs = s.inputs ∧ t.disposing = s.disposing ∧ t.permit = s.permit ∧ t.bank = s.bank ∧ t.store = s.store ∧ t.guard = s.guard ∧ t.lot = s.lot ∧ t.marker = s.marker ∧ t.run = s.run ∧ t.port = s.port ∧ t.conv = s.conv ∧ t.tables = s.tables ∧ t.pending = s.pending := by
  revert h
  unfold retryStart
  (repeat' split) <;> rintro ⟨⟩
  simp

/-- An event that is tried takes effect or leaves the state as it is. -/
theorem attempt_cases (event : State → Option State) (s : State) :
    (event s = none ∧ attempt event s = s) ∨ event s = some (attempt event s) := by
  unfold attempt
  cases event s <;> simp

/-- It changes only nests, arbiter, bank. -/
@[simp] theorem withdrawStep_frame (n : NestId) :
    (withdrawStep s n).inputs = s.inputs ∧ (withdrawStep s n).disposing = s.disposing ∧ (withdrawStep s n).permit = s.permit ∧ (withdrawStep s n).store = s.store ∧ (withdrawStep s n).guard = s.guard ∧ (withdrawStep s n).lot = s.lot ∧ (withdrawStep s n).marker = s.marker ∧ (withdrawStep s n).run = s.run ∧ (withdrawStep s n).port = s.port ∧ (withdrawStep s n).conv = s.conv ∧ (withdrawStep s n).tables = s.tables ∧ (withdrawStep s n).pending = s.pending := by
  unfold withdrawStep
  split
  · simp
  · rcases attempt_cases (retryStart n) _ with ⟨_, h⟩ | h
    · rw [h]; simp
    · have := retryStart_frame n h
      simp_all

/-- It changes only nests, arbiter, bank, permit. -/
@[simp] theorem withdrawAll_frame :
    (withdrawAll s).inputs = s.inputs ∧ (withdrawAll s).disposing = s.disposing ∧ (withdrawAll s).store = s.store ∧ (withdrawAll s).guard = s.guard ∧ (withdrawAll s).lot = s.lot ∧ (withdrawAll s).marker = s.marker ∧ (withdrawAll s).run = s.run ∧ (withdrawAll s).port = s.port ∧ (withdrawAll s).conv = s.conv ∧ (withdrawAll s).tables = s.tables ∧ (withdrawAll s).pending = s.pending := by
  rw [withdrawAll]
  refine List.foldlRecOn (motive := fun (t : State) => t.inputs = s.inputs ∧ t.disposing = s.disposing ∧ t.store = s.store ∧ t.guard = s.guard ∧ t.lot = s.lot ∧ t.marker = s.marker ∧ t.run = s.run ∧ t.port = s.port ∧ t.conv = s.conv ∧ t.tables = s.tables ∧ t.pending = s.pending) _ _ ?_ ?_
  · simp
  · intro t h n _; simpa using h

/-- It changes only run, port. -/
@[simp] theorem recordTimeout_frame (a : Action) :
    (recordTimeout a s).inputs = s.inputs ∧ (recordTimeout a s).nests = s.nests ∧ (recordTimeout a s).disposing = s.disposing ∧ (recordTimeout a s).arbiter = s.arbiter ∧ (recordTimeout a s).permit = s.permit ∧ (recordTimeout a s).bank = s.bank ∧ (recordTimeout a s).store = s.store ∧ (recordTimeout a s).guard = s.guard ∧ (recordTimeout a s).lot = s.lot ∧ (recordTimeout a s).marker = s.marker ∧ (recordTimeout a s).conv = s.conv ∧ (recordTimeout a s).tables = s.tables ∧ (recordTimeout a s).pending = s.pending := by
  simp [recordTimeout]

/-- It changes only arbiter, bank, nests, store, guard, disposing, permit, run, port. -/
theorem permitTimeout_frame (h : permitTimeout s = some t) :
    t.inputs = s.inputs ∧ t.lot = s.lot ∧ t.marker = s.marker ∧ t.conv = s.conv ∧ t.tables = s.tables ∧ t.pending = s.pending := by
  revert h
  unfold permitTimeout
  dsimp only
  (repeat' split) <;> rintro ⟨⟩ <;> simp

/-- It changes only arbiter, bank, nests, store, guard, disposing, permit, run, port, conv. -/
@[simp] theorem declareLoss_frame :
    (declareLoss s).inputs = s.inputs ∧ (declareLoss s).lot = s.lot ∧ (declareLoss s).marker = s.marker ∧ (declareLoss s).tables = s.tables ∧ (declareLoss s).pending = s.pending := by
  simp [declareLoss]

/-- It changes only arbiter, bank, nests, store, guard, disposing, permit, run, port. -/
theorem disposalStall_frame (n : NestId) (h : disposalStall n s = some t) :
    t.inputs = s.inputs ∧ t.lot = s.lot ∧ t.marker = s.marker ∧ t.conv = s.conv ∧ t.tables = s.tables ∧ t.pending = s.pending := by
  revert h
  unfold disposalStall
  (repeat' split) <;> rintro ⟨⟩
  simp

/-- It changes only store, guard. -/
@[simp] theorem declareBlocks_frame (b k : Nat) (i : StreamId) (f : Option Nat) :
    (declareBlocks b k i f s).inputs = s.inputs ∧ (declareBlocks b k i f s).nests = s.nests ∧ (declareBlocks b k i f s).disposing = s.disposing ∧ (declareBlocks b k i f s).arbiter = s.arbiter ∧ (declareBlocks b k i f s).permit = s.permit ∧ (declareBlocks b k i f s).bank = s.bank ∧ (declareBlocks b k i f s).lot = s.lot ∧ (declareBlocks b k i f s).marker = s.marker ∧ (declareBlocks b k i f s).run = s.run ∧ (declareBlocks b k i f s).port = s.port ∧ (declareBlocks b k i f s).conv = s.conv ∧ (declareBlocks b k i f s).tables = s.tables ∧ (declareBlocks b k i f s).pending = s.pending := by
  unfold declareBlocks
  split <;> simp

/-- It changes only port. -/
@[simp] theorem raiseExceeded_frame (b : Nat) (i : StreamId) (x : Stream) (d : Bool) (l : Int) (o : Bool) :
    (raiseExceeded b i x d l o s).inputs = s.inputs ∧ (raiseExceeded b i x d l o s).nests = s.nests ∧ (raiseExceeded b i x d l o s).disposing = s.disposing ∧ (raiseExceeded b i x d l o s).arbiter = s.arbiter ∧ (raiseExceeded b i x d l o s).permit = s.permit ∧ (raiseExceeded b i x d l o s).bank = s.bank ∧ (raiseExceeded b i x d l o s).store = s.store ∧ (raiseExceeded b i x d l o s).guard = s.guard ∧ (raiseExceeded b i x d l o s).lot = s.lot ∧ (raiseExceeded b i x d l o s).marker = s.marker ∧ (raiseExceeded b i x d l o s).run = s.run ∧ (raiseExceeded b i x d l o s).conv = s.conv ∧ (raiseExceeded b i x d l o s).tables = s.tables ∧ (raiseExceeded b i x d l o s).pending = s.pending := by
  unfold raiseExceeded
  split <;> simp

/-- It changes only guard, port, store. -/
@[simp] theorem endGuardBlock_frame (k : Nat) :
    (endGuardBlock k s).inputs = s.inputs ∧ (endGuardBlock k s).nests = s.nests ∧ (endGuardBlock k s).disposing = s.disposing ∧ (endGuardBlock k s).arbiter = s.arbiter ∧ (endGuardBlock k s).permit = s.permit ∧ (endGuardBlock k s).bank = s.bank ∧ (endGuardBlock k s).lot = s.lot ∧ (endGuardBlock k s).marker = s.marker ∧ (endGuardBlock k s).run = s.run ∧ (endGuardBlock k s).conv = s.conv ∧ (endGuardBlock k s).tables = s.tables ∧ (endGuardBlock k s).pending = s.pending := by
  simp [endGuardBlock]

/-- It changes only guard, port, store. -/
theorem guardBlockEnd_frame (h : guardBlockEnd s = some t) :
    t.inputs = s.inputs ∧ t.nests = s.nests ∧ t.disposing = s.disposing ∧ t.arbiter = s.arbiter ∧ t.permit = s.permit ∧ t.bank = s.bank ∧ t.lot = s.lot ∧ t.marker = s.marker ∧ t.run = s.run ∧ t.conv = s.conv ∧ t.tables = s.tables ∧ t.pending = s.pending := by
  revert h
  unfold guardBlockEnd
  split <;> rintro ⟨⟩
  simp

/-- It changes only store. -/
theorem figureUnitTake_frame (h : figureUnitTake s = some t) :
    t.inputs = s.inputs ∧ t.nests = s.nests ∧ t.disposing = s.disposing ∧ t.arbiter = s.arbiter ∧ t.permit = s.permit ∧ t.bank = s.bank ∧ t.guard = s.guard ∧ t.lot = s.lot ∧ t.marker = s.marker ∧ t.run = s.run ∧ t.port = s.port ∧ t.conv = s.conv ∧ t.tables = s.tables ∧ t.pending = s.pending := by
  revert h
  unfold figureUnitTake
  split <;> rintro ⟨⟩
  simp

/-- It changes only port. -/
@[simp] theorem offerStepReport_frame (w : WindowRecord) (fs : List Finding) (k : Option Bool) :
    (offerStepReport w fs k s).inputs = s.inputs ∧ (offerStepReport w fs k s).nests = s.nests ∧ (offerStepReport w fs k s).disposing = s.disposing ∧ (offerStepReport w fs k s).arbiter = s.arbiter ∧ (offerStepReport w fs k s).permit = s.permit ∧ (offerStepReport w fs k s).bank = s.bank ∧ (offerStepReport w fs k s).store = s.store ∧ (offerStepReport w fs k s).guard = s.guard ∧ (offerStepReport w fs k s).lot = s.lot ∧ (offerStepReport w fs k s).marker = s.marker ∧ (offerStepReport w fs k s).run = s.run ∧ (offerStepReport w fs k s).conv = s.conv ∧ (offerStepReport w fs k s).tables = s.tables ∧ (offerStepReport w fs k s).pending = s.pending := by
  unfold offerStepReport
  split <;> simp

/-- It changes only store. -/
@[simp] theorem freeComputed_frame :
    (freeComputed s).inputs = s.inputs ∧ (freeComputed s).nests = s.nests ∧ (freeComputed s).disposing = s.disposing ∧ (freeComputed s).arbiter = s.arbiter ∧ (freeComputed s).permit = s.permit ∧ (freeComputed s).bank = s.bank ∧ (freeComputed s).guard = s.guard ∧ (freeComputed s).lot = s.lot ∧ (freeComputed s).marker = s.marker ∧ (freeComputed s).run = s.run ∧ (freeComputed s).port = s.port ∧ (freeComputed s).conv = s.conv ∧ (freeComputed s).tables = s.tables ∧ (freeComputed s).pending = s.pending := by
  simp [freeComputed]

/-- It changes only store, port, nests. -/
@[simp] theorem judgeRecord_frame (r : UnitRecord) (w : WindowRecord) :
    (judgeRecord r w s).inputs = s.inputs ∧ (judgeRecord r w s).disposing = s.disposing ∧ (judgeRecord r w s).arbiter = s.arbiter ∧ (judgeRecord r w s).permit = s.permit ∧ (judgeRecord r w s).bank = s.bank ∧ (judgeRecord r w s).guard = s.guard ∧ (judgeRecord r w s).lot = s.lot ∧ (judgeRecord r w s).marker = s.marker ∧ (judgeRecord r w s).run = s.run ∧ (judgeRecord r w s).conv = s.conv ∧ (judgeRecord r w s).tables = s.tables ∧ (judgeRecord r w s).pending = s.pending := by
  simp [judgeRecord]

/-- It changes only store, nests. -/
@[simp] theorem discardRecord_frame (w : WindowRecord) :
    (discardRecord w s).inputs = s.inputs ∧ (discardRecord w s).disposing = s.disposing ∧ (discardRecord w s).arbiter = s.arbiter ∧ (discardRecord w s).permit = s.permit ∧ (discardRecord w s).bank = s.bank ∧ (discardRecord w s).guard = s.guard ∧ (discardRecord w s).lot = s.lot ∧ (discardRecord w s).marker = s.marker ∧ (discardRecord w s).run = s.run ∧ (discardRecord w s).port = s.port ∧ (discardRecord w s).conv = s.conv ∧ (discardRecord w s).tables = s.tables ∧ (discardRecord w s).pending = s.pending := by
  simp [discardRecord]

/-- It changes only store, port, nests. -/
theorem figureUnitCompletion_frame (h : figureUnitCompletion s = some t) :
    t.inputs = s.inputs ∧ t.disposing = s.disposing ∧ t.arbiter = s.arbiter ∧ t.permit = s.permit ∧ t.bank = s.bank ∧ t.guard = s.guard ∧ t.lot = s.lot ∧ t.marker = s.marker ∧ t.run = s.run ∧ t.conv = s.conv ∧ t.tables = s.tables ∧ t.pending = s.pending := by
  revert h
  unfold figureUnitCompletion
  (repeat' split) <;> rintro ⟨⟩ <;> simp

/-- It changes only nests, disposing. -/
theorem grading_frame (n : NestId) (h : grading n s = some t) :
    t.inputs = s.inputs ∧ t.arbiter = s.arbiter ∧ t.permit = s.permit ∧ t.bank = s.bank ∧ t.store = s.store ∧ t.guard = s.guard ∧ t.lot = s.lot ∧ t.marker = s.marker ∧ t.run = s.run ∧ t.port = s.port ∧ t.conv = s.conv ∧ t.tables = s.tables ∧ t.pending = s.pending := by
  revert h
  unfold grading
  (repeat' split) <;> rintro ⟨⟩
  simp

/-- It changes only port. -/
@[simp] theorem reserveSlot_frame (b : Bool) :
    (reserveSlot b s).inputs = s.inputs ∧ (reserveSlot b s).nests = s.nests ∧ (reserveSlot b s).disposing = s.disposing ∧ (reserveSlot b s).arbiter = s.arbiter ∧ (reserveSlot b s).permit = s.permit ∧ (reserveSlot b s).bank = s.bank ∧ (reserveSlot b s).store = s.store ∧ (reserveSlot b s).guard = s.guard ∧ (reserveSlot b s).lot = s.lot ∧ (reserveSlot b s).marker = s.marker ∧ (reserveSlot b s).run = s.run ∧ (reserveSlot b s).conv = s.conv ∧ (reserveSlot b s).tables = s.tables ∧ (reserveSlot b s).pending = s.pending := by
  simp [reserveSlot]

/-- It changes only port. -/
@[simp] theorem placeReport_frame (n : NestId) (r : UnitRecord) :
    (placeReport n r s).inputs = s.inputs ∧ (placeReport n r s).nests = s.nests ∧ (placeReport n r s).disposing = s.disposing ∧ (placeReport n r s).arbiter = s.arbiter ∧ (placeReport n r s).permit = s.permit ∧ (placeReport n r s).bank = s.bank ∧ (placeReport n r s).store = s.store ∧ (placeReport n r s).guard = s.guard ∧ (placeReport n r s).lot = s.lot ∧ (placeReport n r s).marker = s.marker ∧ (placeReport n r s).run = s.run ∧ (placeReport n r s).conv = s.conv ∧ (placeReport n r s).tables = s.tables ∧ (placeReport n r s).pending = s.pending := by
  simp [placeReport]

/-- It changes only marker. -/
@[simp] theorem placeLabel_frame (n : NestId) (r : UnitRecord) (d : Disposition) :
    (placeLabel n r d s).inputs = s.inputs ∧ (placeLabel n r d s).nests = s.nests ∧ (placeLabel n r d s).disposing = s.disposing ∧ (placeLabel n r d s).arbiter = s.arbiter ∧ (placeLabel n r d s).permit = s.permit ∧ (placeLabel n r d s).bank = s.bank ∧ (placeLabel n r d s).store = s.store ∧ (placeLabel n r d s).guard = s.guard ∧ (placeLabel n r d s).lot = s.lot ∧ (placeLabel n r d s).run = s.run ∧ (placeLabel n r d s).port = s.port ∧ (placeLabel n r d s).conv = s.conv ∧ (placeLabel n r d s).tables = s.tables ∧ (placeLabel n r d s).pending = s.pending := by
  unfold placeLabel
  split <;> simp

/-- It changes only disposing, lot, nests, arbiter. -/
@[simp] theorem leaveDisposing_frame (n : NestId) (p : Bool) :
    (leaveDisposing n p s).inputs = s.inputs ∧ (leaveDisposing n p s).permit = s.permit ∧ (leaveDisposing n p s).bank = s.bank ∧ (leaveDisposing n p s).store = s.store ∧ (leaveDisposing n p s).guard = s.guard ∧ (leaveDisposing n p s).marker = s.marker ∧ (leaveDisposing n p s).run = s.run ∧ (leaveDisposing n p s).port = s.port ∧ (leaveDisposing n p s).conv = s.conv ∧ (leaveDisposing n p s).tables = s.tables ∧ (leaveDisposing n p s).pending = s.pending := by
  unfold leaveDisposing
  split <;> simp

/-- It changes only disposing, lot, nests, arbiter, port, marker. -/
@[simp] theorem disposeGraded_frame (n : NestId) (r : UnitRecord) (d : Disposition) :
    (disposeGraded n r d s).inputs = s.inputs ∧ (disposeGraded n r d s).permit = s.permit ∧ (disposeGraded n r d s).bank = s.bank ∧ (disposeGraded n r d s).store = s.store ∧ (disposeGraded n r d s).guard = s.guard ∧ (disposeGraded n r d s).run = s.run ∧ (disposeGraded n r d s).conv = s.conv ∧ (disposeGraded n r d s).tables = s.tables ∧ (disposeGraded n r d s).pending = s.pending := by
  simp [disposeGraded]

/-- It changes only disposing, lot, nests, arbiter, port. -/
@[simp] theorem disposeAborted_frame (n : NestId) (r : UnitRecord) :
    (disposeAborted n r s).inputs = s.inputs ∧ (disposeAborted n r s).permit = s.permit ∧ (disposeAborted n r s).bank = s.bank ∧ (disposeAborted n r s).store = s.store ∧ (disposeAborted n r s).guard = s.guard ∧ (disposeAborted n r s).marker = s.marker ∧ (disposeAborted n r s).run = s.run ∧ (disposeAborted n r s).conv = s.conv ∧ (disposeAborted n r s).tables = s.tables ∧ (disposeAborted n r s).pending = s.pending := by
  simp [disposeAborted]

/-- It changes only marker. -/
theorem markerFrameStart_frame (h : markerFrameStart s = some t) :
    t.inputs = s.inputs ∧ t.nests = s.nests ∧ t.disposing = s.disposing ∧ t.arbiter = s.arbiter ∧ t.permit = s.permit ∧ t.bank = s.bank ∧ t.store = s.store ∧ t.guard = s.guard ∧ t.lot = s.lot ∧ t.run = s.run ∧ t.port = s.port ∧ t.conv = s.conv ∧ t.tables = s.tables ∧ t.pending = s.pending := by
  revert h
  unfold markerFrameStart
  (repeat' split) <;> rintro ⟨⟩
  simp

/-- It changes only marker. -/
theorem sendCompletion_frame (h : sendCompletion s = some t) :
    t.inputs = s.inputs ∧ t.nests = s.nests ∧ t.disposing = s.disposing ∧ t.arbiter = s.arbiter ∧ t.permit = s.permit ∧ t.bank = s.bank ∧ t.store = s.store ∧ t.guard = s.guard ∧ t.lot = s.lot ∧ t.run = s.run ∧ t.port = s.port ∧ t.conv = s.conv ∧ t.tables = s.tables ∧ t.pending = s.pending := by
  revert h
  unfold sendCompletion
  split <;> rintro ⟨⟩
  simp

/-- It changes only marker. -/
theorem takeAck_frame (h : takeAck s = some t) :
    t.inputs = s.inputs ∧ t.nests = s.nests ∧ t.disposing = s.disposing ∧ t.arbiter = s.arbiter ∧ t.permit = s.permit ∧ t.bank = s.bank ∧ t.store = s.store ∧ t.guard = s.guard ∧ t.lot = s.lot ∧ t.run = s.run ∧ t.port = s.port ∧ t.conv = s.conv ∧ t.tables = s.tables ∧ t.pending = s.pending := by
  revert h
  unfold takeAck
  split <;> rintro ⟨⟩
  simp

/-- It changes only marker, port. -/
@[simp] theorem discardLabel_frame (f : MarkerFailure) :
    (discardLabel f s).inputs = s.inputs ∧ (discardLabel f s).nests = s.nests ∧ (discardLabel f s).disposing = s.disposing ∧ (discardLabel f s).arbiter = s.arbiter ∧ (discardLabel f s).permit = s.permit ∧ (discardLabel f s).bank = s.bank ∧ (discardLabel f s).store = s.store ∧ (discardLabel f s).guard = s.guard ∧ (discardLabel f s).lot = s.lot ∧ (discardLabel f s).run = s.run ∧ (discardLabel f s).conv = s.conv ∧ (discardLabel f s).tables = s.tables ∧ (discardLabel f s).pending = s.pending := by
  unfold discardLabel
  split <;> simp

/-- It changes only marker, port. -/
@[simp] theorem markerFaultEffect_frame (f : MarkerFailure) (a : Action) :
    (markerFaultEffect f a s).inputs = s.inputs ∧ (markerFaultEffect f a s).nests = s.nests ∧ (markerFaultEffect f a s).disposing = s.disposing ∧ (markerFaultEffect f a s).arbiter = s.arbiter ∧ (markerFaultEffect f a s).permit = s.permit ∧ (markerFaultEffect f a s).bank = s.bank ∧ (markerFaultEffect f a s).store = s.store ∧ (markerFaultEffect f a s).guard = s.guard ∧ (markerFaultEffect f a s).lot = s.lot ∧ (markerFaultEffect f a s).run = s.run ∧ (markerFaultEffect f a s).conv = s.conv ∧ (markerFaultEffect f a s).tables = s.tables ∧ (markerFaultEffect f a s).pending = s.pending := by
  unfold markerFaultEffect
  split <;> simp

/-- It changes only arbiter, bank, nests, store, guard, disposing, permit, run, port, marker. -/
@[simp] theorem raiseMarkerFault_frame (f : MarkerFailure) :
    (raiseMarkerFault f s).inputs = s.inputs ∧ (raiseMarkerFault f s).lot = s.lot ∧ (raiseMarkerFault f s).conv = s.conv ∧ (raiseMarkerFault f s).tables = s.tables ∧ (raiseMarkerFault f s).pending = s.pending := by
  simp [raiseMarkerFault]

/-- It changes only arbiter, bank, nests, store, guard, disposing, permit, run, port, marker. -/
@[simp] theorem markerFailure_frame (f : MarkerFailure) :
    (markerFailure f s).inputs = s.inputs ∧ (markerFailure f s).lot = s.lot ∧ (markerFailure f s).conv = s.conv ∧ (markerFailure f s).tables = s.tables ∧ (markerFailure f s).pending = s.pending := by
  unfold markerFailure
  split <;> simp

/-- It changes only arbiter, bank, nests, store, guard, disposing, permit, run, port, marker. -/
theorem takeNak_frame (h : takeNak s = some t) :
    t.inputs = s.inputs ∧ t.lot = s.lot ∧ t.conv = s.conv ∧ t.tables = s.tables ∧ t.pending = s.pending := by
  revert h
  unfold takeNak
  split <;> rintro ⟨⟩
  simp

/-- A byte in its line form is received as that byte (R166). -/
@[simp] theorem receivedByte_lineForm (b : Byte) : receivedByte (lineForm b) = some b := by
  revert b
  simp only [lineForm, receivedByte]
  decide +kernel

/-- The byte ACK is taken as an ACK (R167). -/
@[simp] theorem receiveLine_ack : receiveLine (lineForm ackByte) = takeAck := by
  funext s
  simp [receiveLine]

/-- The byte NAK is taken as a NAK (R167). -/
@[simp] theorem receiveLine_nak : receiveLine (lineForm nakByte) = takeNak := by
  funext s
  simp [receiveLine, ackByte, nakByte]

/-- It changes only arbiter, bank, nests, store, guard, disposing, permit, run, port, marker. -/
theorem replyTimeout_frame (h : replyTimeout s = some t) :
    t.inputs = s.inputs ∧ t.lot = s.lot ∧ t.conv = s.conv ∧ t.tables = s.tables ∧ t.pending = s.pending := by
  revert h
  unfold replyTimeout
  split <;> rintro ⟨⟩
  simp

/-- It changes only run. -/
@[simp] theorem clearMark_frame :
    (clearMark s).inputs = s.inputs ∧ (clearMark s).nests = s.nests ∧ (clearMark s).disposing = s.disposing ∧ (clearMark s).arbiter = s.arbiter ∧ (clearMark s).permit = s.permit ∧ (clearMark s).bank = s.bank ∧ (clearMark s).store = s.store ∧ (clearMark s).guard = s.guard ∧ (clearMark s).lot = s.lot ∧ (clearMark s).marker = s.marker ∧ (clearMark s).port = s.port ∧ (clearMark s).conv = s.conv ∧ (clearMark s).tables = s.tables ∧ (clearMark s).pending = s.pending := by
  simp [clearMark]

/-- It changes only run, marker. -/
@[simp] theorem clearFaults_frame :
    (clearFaults s).inputs = s.inputs ∧ (clearFaults s).nests = s.nests ∧ (clearFaults s).disposing = s.disposing ∧ (clearFaults s).arbiter = s.arbiter ∧ (clearFaults s).permit = s.permit ∧ (clearFaults s).bank = s.bank ∧ (clearFaults s).store = s.store ∧ (clearFaults s).guard = s.guard ∧ (clearFaults s).lot = s.lot ∧ (clearFaults s).port = s.port ∧ (clearFaults s).conv = s.conv ∧ (clearFaults s).tables = s.tables ∧ (clearFaults s).pending = s.pending := by
  simp [clearFaults]

/-- It changes only port. -/
theorem waitingReply_frame (h : waitingReply s = some t) :
    t.inputs = s.inputs ∧ t.nests = s.nests ∧ t.disposing = s.disposing ∧ t.arbiter = s.arbiter ∧ t.permit = s.permit ∧ t.bank = s.bank ∧ t.store = s.store ∧ t.guard = s.guard ∧ t.lot = s.lot ∧ t.marker = s.marker ∧ t.run = s.run ∧ t.conv = s.conv ∧ t.tables = s.tables ∧ t.pending = s.pending := by
  revert h
  unfold waitingReply
  (repeat' split) <;> rintro ⟨⟩
  simp

/-- It changes only port. -/
theorem reportsDropped_frame (h : reportsDropped s = some t) :
    t.inputs = s.inputs ∧ t.nests = s.nests ∧ t.disposing = s.disposing ∧ t.arbiter = s.arbiter ∧ t.permit = s.permit ∧ t.bank = s.bank ∧ t.store = s.store ∧ t.guard = s.guard ∧ t.lot = s.lot ∧ t.marker = s.marker ∧ t.run = s.run ∧ t.conv = s.conv ∧ t.tables = s.tables ∧ t.pending = s.pending := by
  revert h
  unfold reportsDropped
  split <;> rintro ⟨⟩
  simp

/-- It changes only run. -/
@[simp] theorem endValidation_frame (b : Bool) :
    (endValidation b s).inputs = s.inputs ∧ (endValidation b s).nests = s.nests ∧ (endValidation b s).disposing = s.disposing ∧ (endValidation b s).arbiter = s.arbiter ∧ (endValidation b s).permit = s.permit ∧ (endValidation b s).bank = s.bank ∧ (endValidation b s).store = s.store ∧ (endValidation b s).guard = s.guard ∧ (endValidation b s).lot = s.lot ∧ (endValidation b s).marker = s.marker ∧ (endValidation b s).port = s.port ∧ (endValidation b s).conv = s.conv ∧ (endValidation b s).tables = s.tables ∧ (endValidation b s).pending = s.pending := by
  simp [endValidation]

end Sys2Proof.Machine
end

