-- ==== Sys2Proof/Laws/Settle.lean ====
section
/-! SUPPORT. What the end of an event can do: the induction over its consequences, said once, and with it the induction over every row of
the table. -/

namespace Sys2Proof.Machine

open Sys2Proof

variable {s t u : State} {P : State → Prop}

/-! ## Consequences -/

/-- A consequence taken is one of `internals`. -/
theorem nextInternal_mem (h : nextInternal s = some t) : ∃ event ∈ internals, event s = some t :=
  List.exists_of_findSome?_eq_some h

/-- Nothing is left to happen exactly when no consequence's condition holds. -/
theorem nextInternal_none : nextInternal s = none ↔ ∀ event ∈ internals, event s = none := by
  simp [nextInternal, List.findSome?_eq_none_iff]

/-- With nothing left to happen, the event ends in the same state. -/
theorem settleWith_quiet (h : nextInternal s = none) : ∀ k, settleWith k s = s
  | 0 => rfl
  | k + 1 => by simp [settleWith, h]

/-- With nothing left to happen, the event ends in the same state. -/
theorem settle_quiet (h : nextInternal s = none) : settle s = s := settleWith_quiet h _

/-- The event's end takes one consequence, then the rest. -/
theorem settleWith_step (h : nextInternal s = some t) (k : Nat) : settleWith (k + 1) s = settleWith k t := by
  simp [settleWith, h]

/-- The induction over consequences: what every consequence keeps, the event's end keeps. -/
theorem settleWith_keeps (h : ∀ event ∈ internals, ∀ s t, P s → event s = some t → P t) : ∀ k s, P s → P (settleWith k s)
  | 0, _, hs => hs
  | k + 1, s, hs => by
    rw [settleWith]
    split
    · next t ht =>
      obtain ⟨event, hm, he⟩ := nextInternal_mem ht
      exact settleWith_keeps h k t (h event hm s t hs he)
    · exact hs

/-- The induction over consequences, at the fuel of an event. -/
theorem settle_keeps (h : ∀ event ∈ internals, ∀ s t, P s → event s = some t → P t) (hs : P s) : P (settle s) :=
  settleWith_keeps h _ s hs

/-! ## Events -/

/-- An event whose condition does not hold leaves the state as it is. -/
theorem happen_none {event : State → Option State} (h : event s = none) : happen event s = s := by simp [happen, h]

/-- An event whose condition holds is taken, with its consequences. -/
theorem happen_some {event : State → Option State} (h : event s = some t) : happen event s = settle t := by simp [happen, h]

/-- Every input is among those whose edges fall due. -/
theorem mem_allInputs (i : Input) : i ∈ allInputs := by
  cases i with
  | present n => fin_cases n <;> simp [allInputs]
  | clamp n => fin_cases n <;> simp [allInputs]
  | _ => simp [allInputs]

/-- The edge of every input is a due event. -/
theorem debouncedEdge_due (i : Input) : debouncedEdge i ∈ dueEvents :=
  List.mem_append_right _ (List.mem_map_of_mem (mem_allInputs i))

/-- Where nothing is due, the due events leave the state as it is. -/
theorem flush_nothingDue (h : NothingDue s) : flush s = s := by
  unfold flush
  generalize hl : dueEvents = l
  have hd : ∀ event ∈ l, event s = none := hl ▸ h
  clear hl
  induction l with
  | nil => rfl
  | cons event rest ih =>
    rw [List.foldl_cons, happen_none (hd event (by simp))]
    exact ih fun e he => hd e (by simp [he])

/-! ## The reference clock -/

/-- A running timer after two spans of time is the timer after both together. -/
theorem Timer.advance_advance (j k : Nat) (x : Timer) : (x.advance j).advance k = x.advance (j + k) := by
  simp [Timer.advance, Nat.add_assoc]

/-- An input after two spans of time is the input after both together. -/
theorem InputState.tick_tick (j k : Nat) (x : InputState) : (x.tick j).tick k = x.tick (j + k) := by
  cases x with | mk l d h => cases h <;> simp [InputState.tick, Nat.add_assoc]

/-- A nest after two spans of time is the nest after both together. -/
theorem Nest.tick_tick (j k : Nat) (x : Nest) : (x.tick j).tick k = x.tick (j + k) := by
  simp [Nest.tick, Option.map_map, Function.comp_def, Timer.advance_advance]

/-- No time leaves a timer as it is. -/
@[simp] theorem Timer.advance_zero : Timer.advance 0 = id := rfl

/-- No time leaves an input as it is. -/
@[simp] theorem InputState.tick_zero : InputState.tick 0 = id := by
  funext x
  simp [InputState.tick]

/-- No time leaves a nest as it is. -/
@[simp] theorem Nest.tick_zero : Nest.tick 0 = id := by
  funext x
  simp [Nest.tick]

/-- No time changes nothing. -/
@[simp] theorem tick_zero : tick 0 s = s := by
  simp [tick, State.setInputs, State.setNests, State.setPermit, State.setMarker, State.setRun, Inputs.tick, Permit.tick, Marker.tick,
    RunControl.tick]

/-- With no hold, timer or validation running, time changes nothing. -/
theorem tick_still (k : Nat) (hp : ∀ n : NestId, s.inputs.present[n].hold = none) (hc : ∀ n : NestId, s.inputs.clamp[n].hold = none)
    (hi : s.inputs.engEnable.hold = none ∧ s.inputs.alertClr.hold = none ∧ s.inputs.markerReady.hold = none)
    (hn : ∀ n : NestId, s.nests[n].stall = none) (ht : s.permit.holdTimer = none ∧ s.permit.waitTimer = none)
    (hm : s.marker.replyTimer = none) (hv : s.run.validation = none) : tick k s = s := by
  have ip : ∀ x : InputState, x.hold = none → x.tick k = x := fun x h => by cases x; simp_all [InputState.tick]
  have np : ∀ x : Nest, x.stall = none → x.tick k = x := fun x h => by cases x; simp_all [Nest.tick]
  have h1 : s.inputs.present.map (InputState.tick k) = s.inputs.present := Vector.ext fun i hi => by
    simpa using ip _ (hp ⟨i, hi⟩)
  have h2 : s.inputs.clamp.map (InputState.tick k) = s.inputs.clamp := Vector.ext fun i hi => by simpa using ip _ (hc ⟨i, hi⟩)
  have h3 : s.nests.map (Nest.tick k) = s.nests := Vector.ext fun i hi => by simpa using np _ (hn ⟨i, hi⟩)
  have h4 : ∀ p : Permit, p.holdTimer = none ∧ p.waitTimer = none → p.tick k = p := fun p h => by cases p; simp_all [Permit.tick]
  have h5 : ∀ m : Marker, m.replyTimer = none → m.tick k = m := fun m h => by cases m; simp_all [Marker.tick]
  have h6 : ∀ r : RunControl, r.validation = none → r.tick k = r := fun r h => by cases r; simp_all [RunControl.tick]
  simp [tick, Inputs.tick, State.setInputs, State.setNests, State.setPermit, State.setMarker, State.setRun, h1, h2, h3, h4 _ ht, h5 _ hm,
    h6 _ hv, ip _ hi.1, ip _ hi.2.1, ip _ hi.2.2]

/-- Two spans of time are one span of both together. -/
theorem tick_tick (j k : Nat) : tick k (tick j s) = tick (j + k) s := by
  simp [tick, State.setInputs, State.setNests, State.setPermit, State.setMarker, State.setRun, Inputs.tick, InputState.tick_tick,
    Nest.tick_tick, Permit.tick, Marker.tick, RunControl.tick, Option.map_map, Function.comp_def, Timer.advance_advance, Nat.add_assoc]

/-- Where nothing falls due, a time without frame events only moves the reference clock on. -/
theorem lapse_nothingDue (k : Nat) : ∀ {s : State}, (∀ j < k, NothingDue (tick j s)) → lapse k s = tick k s := by
  induction k with
  | zero => intro s _; simp [lapse]
  | succ k ih =>
    intro s h
    have h0 : flush s = s := flush_nothingDue (by simpa using h 0 (by omega))
    rw [lapse, h0, ih fun j hj => by simpa [tick_tick, Nat.add_comm] using h (j + 1) (by omega), tick_tick, Nat.add_comm]

/-! ## What every row keeps -/

/-- The operations of which every row of the table is composed, but for the passing of time and the count of a frame, keep a property of
states. -/
structure KeptWithin (P : State → Prop) : Prop where
  powerOn : ∀ l q, P (State.powerOn l q)
  pending : ∀ s q, P s → P (s.setPending q)
  consequence : ∀ event ∈ internals, ∀ s t, P s → event s = some t → P t
  due : ∀ event ∈ dueEvents, ∀ s t, P s → event s = some t → P t
  completion : ∀ s t, P s → figureUnitCompletion s = some t → P t
  validated : ∀ s t, P s → validationCompletion s = some t → P t
  graded : ∀ n s t, P s → disposal n s = some t → P t
  aborted : ∀ n s t, P s → abortedDisposal n s = some t → P t
  sent : ∀ s t, P s → sendCompletion s = some t → P t
  ack : ∀ s t, P s → takeAck s = some t → P t
  nak : ∀ s t, P s → takeNak s = some t → P t
  level : ∀ i b s, P s → P (setLevel i b s)
  latch : ∀ s, P s → P (setLatch s)
  loss : ∀ s, P s → P (declareLoss s)
  leave : ∀ m rest s, s.port.results = m :: rest → P s → P (beginMessage m rest s)
  sending : ∀ l s, P s → P (s.setPort { s.port with sending := l })
  upstream : ∀ l s, P s → P (s.setPort { s.port with upstream := l })
  assembly : ∀ l s, P s → P (s.setPort { s.port with assembly := l })
  holdOff : ∀ b s, P s → P (s.setPort { s.port with holdOff := b })
  badMessage : ∀ s, P s → P (badMessage s)
  badFrame : ∀ s, P s → P (takeBadFrame s)
  arrive : ∀ b s, P s → P (arrive b s)

/-- The operations of which every row of the table is composed keep a property of states. -/
structure Kept (P : State → Prop) : Prop extends KeptWithin P where
  tick : ∀ k s, P s → P (tick k s)
  frame : ∀ f b s, P s → P (runFrame f b s)

namespace KeptWithin

variable (k : KeptWithin P)
include k

/-- What the operations keep, the end of an event keeps. -/
theorem settles (hs : P s) : P (settle s) := settle_keeps k.consequence hs

/-- What the operations keep, an event keeps. -/
theorem happens {event : State → Option State} (h : ∀ s t, P s → event s = some t → P t) (hs : P s) : P (happen event s) := by
  unfold happen
  split
  · next t ht => exact k.settles (h s t hs ht)
  · exact hs

/-- What the operations keep, the due events keep. -/
theorem flushes (hs : P s) : P (flush s) :=
  List.foldlRecOn (motive := P) dueEvents _ hs fun _ ht event hm => k.happens (fun s t => k.due event hm s t) ht

/-- What the operations keep, an upstream lane byte keeps. -/
theorem sendsByte (hs : P s) : P (sendByte s).2 := by
  unfold sendByte
  split
  · exact k.sending _ s hs
  · split
    · next m rest hr =>
      split
      · exact hs
      · exact k.settles (k.leave m rest s hr hs)
    · exact hs

/-- What the operations keep, the upstream frame keeps. -/
theorem sendsUpstream (l : List Byte) (hs : P s) : P (sendUpstream l s) := by
  unfold sendUpstream
  exact k.upstream _ _ (k.sendsByte (k.sendsByte (k.sendsByte (k.sendsByte hs))))

/-- What the operations keep, the end of a downstream message keeps. -/
theorem finishes (l : List Byte) (hs : P s) : P (finishMessage l s) := by
  unfold finishMessage
  split
  · exact k.settles (k.arrive _ _ (k.assembly [] s hs))
  · exact k.assembly [] s hs

/-- What the operations keep, a downstream lane byte keeps. -/
theorem assemblesByte (b : Byte) (hs : P s) : P (assembleByte s b) := by
  unfold assembleByte
  split
  · split
    · exact hs
    · exact k.assembly _ s hs
  · exact k.assembly _ s hs
  · split
    · exact k.badMessage s hs
    · split
      · exact k.finishes _ hs
      · exact k.assembly _ s hs
  · dsimp only
    split
    · exact k.finishes _ hs
    · exact k.assembly _ s hs

/-- What the operations keep, a downstream frame keeps. -/
theorem takesDownstream (d : Option DownFrame) (hs : P s) : P (takeDownstream d s) := by
  unfold takeDownstream
  split
  · split
    · exact List.foldlRecOn (motive := P) _ _ (k.holdOff _ s hs) fun _ ht b _ => k.assemblesByte b ht
    · exact k.badFrame s hs
  · exact k.badFrame s hs

/-- What the operations keep, the exchange of the Station Port frames keeps, in either order. -/
theorem exchanges (l : List Byte) (d : Option DownFrame) (o : Bool) (hs : P s) : P (exchange l d o s) := by
  unfold exchange
  split
  · exact k.sendsUpstream _ (k.takesDownstream d hs)
  · exact k.takesDownstream d (k.sendsUpstream _ hs)

end KeptWithin

namespace Kept

variable (k : Kept P)
include k

/-- What the operations keep, a time without frame events keeps. -/
theorem lapses : ∀ (n : Nat) {s : State}, P s → P (lapse n s)
  | 0, _, hs => hs
  | n + 1, _, hs => lapses n (k.tick 1 _ (k.flushes hs))

/-- What the operations keep, a frame event keeps. -/
theorem frameEvents (f : InFrame) (b : Bool) (d : Option DownFrame) (o : Bool) (hs : P s) : P (frameEvent f b d o s) :=
  k.exchanges _ d o (k.frame f b _ (k.tick 1 _ (k.flushes hs)))

/-- The one induction over the table: what the operations keep, every row keeps. -/
theorem exec_keeps (i : Instr) (hs : P s) (h : exec i s = .next t) : P t := by
  have ev : ∀ {event : State → Option State}, (∀ s t, P s → event s = some t → P t) → P (happen event s) :=
    fun he => k.happens he hs
  have due : ∀ {event : State → Option State}, event ∈ dueEvents → P (happen event s) :=
    fun hm => ev (fun a b => k.due _ hm a b)
  have con : ∀ {event : State → Option State}, event ∈ internals → P (happen event s) :=
    fun hm => ev (fun a b => k.consequence _ hm a b)
  have st : ∀ b, P (settle (Machine.arrive b s)) := fun b => k.settles (k.arrive b s hs)
  cases i <;> cases h
  case powerOn l => exact k.powerOn l _
  case inputHoldStart i b =>
    exact k.level i b _ (ev fun a c => k.due _ (debouncedEdge_due i) a c)
  case debouncedEdge i => exact due (debouncedEdge_due i)
  case frameEvent f d o => exact k.settles (k.frameEvents f false d o hs)
  case referenceFrameEvent d o =>
    split
    · exact hs
    · exact k.settles (k.frameEvents _ true d o hs)
  case converterSyncLost =>
    split
    · exact k.settles (k.loss _ (k.lapses _ hs))
    · exact hs
  case permitInRise => exact k.latch _ (due (by simp [dueEvents]))
  case figureUnitCompletion => exact ev k.completion
  case validationCompletion => exact ev k.validated
  case disposal n => exact ev (k.graded n)
  case abortedDisposal n => exact ev (k.aborted n)
  case sendCompletion => exact ev k.sent
  case ack => rw [receiveLine_ack]; exact ev k.ack
  case nak => rw [receiveLine_nak]; exact ev k.nak
  case windowClose => exact con (by simp [internals])
  case quietGrant => exact con (by simp [internals])
  case loudGatePass => exact con (by simp [internals])
  case pairGrant => exact con (by simp [internals])
  case figureUnitTake => exact con (by simp [internals])
  case retryStart n => exact con (by fin_cases n <;> simp [internals])
  case grading n => exact con (by fin_cases n <;> simp [internals])
  case markerFrameStart => exact con (by simp [internals])
  case heldReached => exact con (by simp [internals])
  case waitingReply => exact con (by simp [internals])
  case reportsDropped => exact con (by simp [internals])
  case settleEnd n => exact due (by fin_cases n <;> simp [dueEvents])
  case windowOpen n => exact due (by fin_cases n <;> simp [dueEvents])
  case lastWindowFrame n => exact due (by fin_cases n <;> simp [dueEvents])
  case windowlessStepEnd n => exact due (by fin_cases n <;> simp [dueEvents])
  case disposalStall n => exact due (by fin_cases n <;> simp [dueEvents])
  case permitArrival => exact due (by simp [dueEvents])
  case permitPulseEnd => exact due (by simp [dueEvents])
  case permitGapEnd => exact due (by simp [dueEvents])
  case holdLimitExpiry => exact due (by simp [dueEvents])
  case permitTimeout => exact due (by simp [dueEvents])
  case guardBlockEnd => exact due (by simp [dueEvents])
  case replyTimeout => exact due (by simp [dueEvents])
  all_goals exact st _

/-- What the operations keep, every step keeps. -/
theorem step_keeps (hs : P s) (h : step s = .next t) : P t := by
  unfold step at h
  split at h
  · cases h; exact hs
  · next c rest _ => exact k.exec_keeps c (k.pending s rest hs) h

end Kept

end Sys2Proof.Machine
end

