-- ==== Sys2Proof/Laws/Operations.lean ====
section
/-! SUPPORT. What each shared operation does, said once: the Result Queue and the subscribers of events, the fault records, the Window
Store, the walk, and the nests. Callers cite these instead of unfolding the operation. -/

namespace Sys2Proof.Machine

open Sys2Proof

variable {s t : State}

/-! ## The Result Queue (R193) -/

@[simp] theorem Port.place_results (p : Port) (m : Message) : (p.place m).results = p.results ++ [m] := rfl

@[simp] theorem Port.countDrop_results (p : Port) : p.countDrop.results = p.results := rfl

/-- A notice joins the tail below 44 messages, and is dropped and counted otherwise (R193). -/
theorem Port.offerNotice_cases (p : Port) (e : Event) :
    (nonReplyAvailable p = true ∧ p.offerNotice e = p.place (.notice e)) ∨
      (nonReplyAvailable p = false ∧ p.offerNotice e = p.countDrop) := by
  unfold Port.offerNotice
  cases h : nonReplyAvailable p <;> simp

/-- Removing the first selected message of a list that has one takes exactly one away. -/
theorem removeFirst_length {q : Message → Bool} :
    ∀ {l : List Message}, l.any q = true → (removeFirst q l).length + 1 = l.length
  | [], h => by simp at h
  | m :: l, h => by
    unfold removeFirst
    split
    · rfl
    · next hm =>
      have : l.any q = true := by simpa [hm] using h
      simpa using removeFirst_length this

/-- A non-reply slot is available only below 44 messages (R193). -/
theorem nonReplyAvailable_length {p : Port} (h : nonReplyAvailable p = true) : p.results.length < 44 := by
  have : p.results.length + (if p.reserved then 1 else 0) < 44 := of_decide_eq_true h
  omega

/-- A reply slot is available exactly below 48 messages (R193). -/
theorem replyAvailable_iff {p : Port} : replyAvailable p = true ↔ p.results.length < 48 := decide_eq_true_iff

/-- A notice never lengthens the Result Queue beyond 44 messages (R193). -/
theorem Port.offerNotice_length (p : Port) (e : Event) :
    (p.offerNotice e).results.length ≤ max p.results.length 44 := by
  rcases p.offerNotice_cases e with ⟨h, he⟩ | ⟨_, he⟩
  · have := nonReplyAvailable_length h
    simp [he]; omega
  · simp [he]

/-- A STEP_REPORT never lengthens the Result Queue beyond 44 messages (R193). -/
theorem Port.offerStepReport_length (p : Port) (r : StepReport) :
    (p.offerStepReport r).results.length ≤ max p.results.length 44 := by
  unfold Port.offerStepReport
  split
  · next h => have := nonReplyAvailable_length h; simp; omega
  · split
    · next h => have := removeFirst_length h; simp; omega
    · simp

/-- A reply never lengthens the Result Queue beyond 48 messages (R193). -/
theorem Port.answer_length (p : Port) (r : Reply) : (p.answer r).results.length ≤ max p.results.length 48 := by
  unfold Port.answer
  split
  · next h => have := replyAvailable_iff.mp h; simp; omega
  · simp

/-- An event never lengthens the Result Queue beyond 44 messages (R196, R198). -/
theorem handOver_length (e : Event) : (handOver e s).port.results.length ≤ max s.port.results.length 44 := by
  unfold handOver Port.handOver
  dsimp only [State.setPort_port]
  split
  · exact Port.offerNotice_length _ e
  · simp

/-- An event touches neither the Command Buffer nor the reply side of the port. -/
@[simp] theorem handOver_port_rest (e : Event) :
    (handOver e s).port.buffer = s.port.buffer ∧ (handOver e s).port.waiting = s.port.waiting ∧
      (handOver e s).port.assembly = s.port.assembly ∧ (handOver e s).port.sending = s.port.sending ∧
      (handOver e s).port.upstream = s.port.upstream ∧ (handOver e s).port.holdOff = s.port.holdOff ∧
      (handOver e s).port.reserved = s.port.reserved := by
  unfold handOver Port.handOver
  dsimp only [State.setPort_port]
  split
  · rcases Port.offerNotice_cases ({ s.port with alertPending := s.port.alertPending.set (noticeIndex (eventKind e)) true }) e with
      ⟨_, h⟩ | ⟨_, h⟩ <;> simp [h, Port.place, Port.countDrop]
  · simp

/-! ## Fault records (R179, R181) -/

/-- The Fault History holds at most 16 records (R181). -/
theorem pushHistory_length {h : List FaultRecord} (r : FaultRecord) (hl : h.length ≤ 16) : (pushHistory h r).length ≤ 16 := by
  unfold pushHistory Config.historyPlaces
  split <;> simp <;> omega

/-- A change of mode touches only the mode of the Run Controller (R171). -/
@[simp] theorem changeMode_run (m : Mode) (c : ModeCause) : (changeMode m c s).run = { s.run with mode := m } := by
  simp [changeMode]

/-! ## The Window Store (R77, R78) -/

/-- Guard Hold takes the new record and no other. -/
@[simp] theorem insertHold_length (w : WindowRecord) : ∀ l, (insertHold w l).length = l.length + 1
  | [] => rfl
  | v :: l => by unfold insertHold; split <;> simp [insertHold_length w l]

/-- The records of Guard Hold after an insertion are the new record and the records before. -/
theorem mem_insertHold {w v : WindowRecord} : ∀ {l}, v ∈ insertHold w l ↔ v = w ∨ v ∈ l
  | [] => by simp [insertHold]
  | u :: l => by
    unfold insertHold
    split
    · simp [mem_insertHold (l := l)]; tauto
    · simp

/-- A close moves one free record into Guard Hold (R73). -/
theorem Store.takeRecord_total {x : Store} (n : NestId) (w : WindowRecord) (h : 0 < x.free) : (x.takeRecord n w).total = x.total := by
  simp only [Store.takeRecord, Store.total, insertHold_length]
  omega

/-- The parts of a list that a test keeps and drops together make its length. -/
theorem filter_length_add {α : Type} (p : α → Bool) (l : List α) :
    (l.filter fun a => !(p a)).length + (l.filter p).length = l.length := by
  induction l with
  | nil => rfl
  | cons a l ih => cases h : p a <;> simp [h] <;> omega

/-- An abort's removals free the records they remove (R20, R81). -/
theorem Store.drop_total (x : Store) (n : NestId) : (x.drop n).total = x.total := by
  have a := filter_length_add (WindowRecord.ofNest n) x.guardHold
  have b := filter_length_add (WindowRecord.ofNest n) x.judgeQueue
  simp only [Store.drop, Store.total, Store.waitingOf]
  omega

/-- A release moves records from Guard Hold to the Judge Queue (R93). -/
theorem Store.release_total (x : Store) (b d k : Nat) : (x.release b d k).total = x.total := by
  have := congrArg List.length (List.takeWhile_append_dropWhile (p := released b d k) (l := x.guardHold))
  simp only [List.length_append] at this
  simp only [Store.release, Store.total, List.length_append]
  omega

/-- The store after a close (R73). -/
theorem closeWindow_store (n : NestId) :
    (∃ r st, (s.nest n).record = some r ∧ (s.nest n).step = some st ∧
        (closeWindow n s).store = s.store.takeRecord n (windowRecord s n r st)) ∨
      (closeWindow n s).store = { s.store with closeWait := s.store.closeWait.filter fun m => !(m == n) } := by
  unfold closeWindow
  split
  · next r st hr hst => exact .inl ⟨r, st, hr, hst, by simp⟩
  · exact .inr rfl

/-- The store after an abort (R19, R20). -/
theorem abortUnit_store (n : NestId) (r : AbortReason) :
    (abortUnit n r s).store = s.store ∨
      (abortUnit n r s).store = { s.store with closeWait := s.store.closeWait.filter fun m => !(m == n) }.drop n := by
  unfold abortUnit
  split
  · exact .inr (by simp [joinDisposing, dropRecords, releaseClaims, leaveCloseWait, Store.waitingOf])
  · exact .inl rfl

/-! ## The walk (R31, R32) -/

/-- The walk never comes to rest on a retry. -/
theorem takeEntry_not_retry {entries : List PlanEntry} {a b : Nat} :
    ∀ fuel stack e, (takeEntry entries fuel stack e).1 ≠ .retry a b
  | 0, _, _ => by simp [takeEntry]
  | fuel + 1, stack, e => by
    unfold takeEntry
    split
    · simp
    · simp
    · split
      · exact takeEntry_not_retry fuel _ _
      · split
        · exact takeEntry_not_retry fuel _ _
        · exact takeEntry_not_retry fuel _ _

/-! ## The nests -/

/-- What the step operations leave of a nest: its lifecycle, its outputs and its record's presence. -/
def SameLife (x y : Nest) : Prop :=
  y.state = x.state ∧ y.record.isSome = x.record.isSome ∧ y.pass = x.pass ∧ y.reject = x.reject ∧ y.gone = x.gone ∧ y.stall = x.stall

theorem SameLife.refl (x : Nest) : SameLife x x := ⟨rfl, rfl, rfl, rfl, rfl, rfl⟩

theorem SameLife.trans {x y z : Nest} (a : SameLife x y) (b : SameLife y z) : SameLife x z := by
  obtain ⟨a1, a2, a3, a4, a5, a6⟩ := a
  obtain ⟨b1, b2, b3, b4, b5, b6⟩ := b
  exact ⟨b1.trans a1, b2.trans a2, b3.trans a3, b4.trans a4, b5.trans a5, b6.trans a6⟩

/-- An update of a nest that keeps its lifecycle keeps that of every nest. -/
theorem modNest_sameLife (n m : NestId) {f : Nest → Nest} (h : ∀ x, SameLife x (f x)) :
    SameLife (s.nest m) ((s.modNest n f).nest m) := by
  rw [State.modNest_nest]
  split
  · exact h _
  · exact SameLife.refl _

/-- An update of a Unit Record keeps the lifecycle of every nest. -/
theorem modRecord_sameLife (n m : NestId) {f : UnitRecord → UnitRecord} : SameLife (s.nest m) ((s.modRecord n f).nest m) :=
  modNest_sameLife n m fun x => ⟨rfl, by simp, rfl, rfl, rfl, rfl⟩

/-- The entry into SETTLE keeps the lifecycle of every nest (R38). -/
theorem enterSettle_sameLife (n m : NestId) : SameLife (s.nest m) ((enterSettle n s).nest m) :=
  modNest_sameLife n m fun _ => ⟨rfl, rfl, rfl, rfl, rfl, rfl⟩

/-- A step start keeps the lifecycle of every nest (R30). -/
theorem startStep_sameLife (n m : NestId) (st : Step) : SameLife (s.nest m) ((startStep n st s).nest m) := by
  have h : SameLife (s.nest m) ((s.modNest n (·.toGate st)).nest m) :=
    modNest_sameLife n m fun _ => ⟨rfl, rfl, rfl, rfl, rfl, rfl⟩
  unfold startStep meetGate
  split
  · exact h.trans (enterSettle_sameLife n m)
  · exact h
  · split
    · exact h.trans (enterSettle_sameLife n m)
    · exact h

/-- The start of a step at a plan position keeps the lifecycle of every nest. -/
theorem startAt_sameLife (n m : NestId) (r : UnitRecord) (e j : Nat) (b : Bool) :
    SameLife (s.nest m) ((startAt n r e j b s).nest m) :=
  (modRecord_sameLife n m).trans (startStep_sameLife n m _)

/-- The walk's advance keeps the lifecycle of every nest, but for a nest with a Unit Record that goes to FINISHING (R31). -/
theorem advance_life (n m : NestId) (b : Bool) :
    SameLife (s.nest m) ((advance n b s).nest m) ∨
      (m = n ∧ (s.nest n).record.isSome ∧ SameLife { s.nest n with state := .finishing } ((advance n b s).nest n)) := by
  have fin : ∀ u : State, (u.nest n).record.isSome = (s.nest n).record.isSome → SameLife (s.nest n) (u.nest n) →
      SameLife { s.nest n with state := .finishing } ((enterFinishing n u).nest n) := by
    intro u _ hu
    obtain ⟨_, h2, h3, h4, h5, h6⟩ := hu
    simp [enterFinishing, SameLife, h2, h3, h4, h5, h6]
  have other : ∀ u : State, m ≠ n → SameLife (s.nest m) (u.nest m) → SameLife (s.nest m) ((enterFinishing n u).nest m) := by
    intro u hm hu
    rw [enterFinishing, State.modRecord_nest, if_neg (Ne.symm hm), State.modNest_nest_ne _ (Ne.symm hm)]
    exact hu
  unfold advance
  split
  · exact .inl (SameLife.refl _)
  · next r hr =>
    have hs : (s.nest n).record.isSome := by simp [hr]
    split
    · exact .inl (SameLife.refl _)
    · by_cases hm : m = n
      · subst hm; exact .inr ⟨rfl, hs, fin s rfl (SameLife.refl _)⟩
      · exact .inl (other s hm (SameLife.refl _))
    · dsimp only
      split
      · exact .inl (startAt_sameLife _ _ _ _ _ _)
      · split
        · exact .inl ((modRecord_sameLife n m).trans (startAt_sameLife _ _ _ _ _ _))
        · by_cases hm : m = n
          · subst hm; exact .inr ⟨rfl, hs, fin _ (modRecord_sameLife m m).2.1 (modRecord_sameLife m m)⟩
          · exact .inl (other _ hm (modRecord_sameLife n m))

/-- The end of a step keeps the lifecycle of every nest, but for a nest with a Unit Record that goes to FINISHING. -/
theorem endStep_life (n m : NestId) (b : Bool) :
    SameLife (s.nest m) ((endStep n b s).nest m) ∨
      (m = n ∧ (s.nest n).record.isSome ∧ SameLife { s.nest n with state := .finishing } ((endStep n b s).nest n)) := by
  have h : ∀ m, SameLife (s.nest m) ((releaseQuiet n (returnPairs n s)).nest m) := fun m =>
    modNest_sameLife (s := s.setBank { s.bank with free := s.bank.free + (s.nest n).pairs.length }) n m
      (f := fun x => { x with pairs := [] }) fun _ => ⟨rfl, rfl, rfl, rfl, rfl, rfl⟩
  rcases advance_life (s := releaseQuiet n (returnPairs n s)) n m b with a | ⟨hm, hr, a⟩
  · exact .inl ((h m).trans a)
  · refine .inr ⟨hm, (h n).2.1 ▸ hr, ?_⟩
    obtain ⟨a1, a2, a3, a4, a5, a6⟩ := a
    obtain ⟨_, h2, h3, h4, h5, h6⟩ := h n
    exact ⟨a1, a2.trans h2, a3.trans h3, a4.trans h4, a5.trans h5, a6.trans h6⟩

end Sys2Proof.Machine
end

