-- ==== Sys2Proof/WellFormed.lean ====
section
/-! DEFINITION. Well-formed rows: what a message of the lane can carry (R189, R191, R195) and the storage ranges that a write's fields
have (R102). A meaning is given to every row, well-formed or not; the checks say which rows the outside can send. -/

namespace Sys2Proof

/-- A run of at most 250 items: the payload of a downstream message has at most 250 bytes (R189, R191). -/
def fitsPayload {α : Type} (l : List α) : Bool := decide (l.length ≤ 250)

/-- A set given as a list: no member twice (R26, R131, R198). -/
def isSet {α : Type} [DecidableEq α] (l : List α) : Bool := decide l.Nodup

/-- A condition's sets hold no member twice (R131). -/
def Condition.wellFormed : Condition → Bool
  | .findings kinds outcomes _ _ => isSet kinds && isSet outcomes
  | .nest nests => isSet nests
  | .retest _ | .unknown _ => true

/-- A GRADE rule fits its message (R130). -/
def GradeRule.wellFormed (g : GradeRule) : Bool :=
  g.conditions.all Condition.wellFormed && fitsPayload g.conditions && fitsPayload g.name

/-- A label field fits its message (R157). -/
def LabelFieldArg.wellFormed : LabelFieldArg → Bool
  | .known (.literal t) => fitsPayload t
  | .known _ | .unknown _ => true

/-- A CALIBRATION record lies in its storage ranges (R102). -/
def Calibration.wellFormed (c : Calibration) : Bool :=
  decide (-32768 ≤ c.micOffset) && decide (c.micOffset ≤ 32767) && decide (c.scale ≤ 65535)

/-- A table write fits its message (R195). -/
def TableWrite.wellFormed : TableWrite → Bool
  | .plan _ r => r.all fun p => fitsPayload p.entries && fitsPayload p.name
  | .mask _ r => r.all fun m => fitsPayload m.points
  | .grade _ r => r.all GradeRule.wellFormed
  | .labelTemplate _ r => r.all fun fs => fitsPayload fs && fs.all LabelFieldArg.wellFormed
  | .calibration _ r => r.all Calibration.wellFormed
  | .segment _ _ | .configuration _ _ | .tap _ _ | .unknown _ => true

/-- A row that the outside can send: the notice kinds of a command are a set, every text and list fits a payload, and the type of an
unknown command is neither filler nor a command (R189, R194). -/
def Instr.wellFormed : Instr → Bool
  | .writeTable _ w => w.wellFormed
  | .newLot _ lotId serialPrefix serial => fitsPayload lotId && fitsPayload serialPrefix && fitsPayload serial
  | .startUnit _ _ _ prior => prior.all fitsPayload
  | .setNotices _ kinds | .clearNotices _ kinds | .setAlerts _ kinds | .clearAlerts _ kinds | .ackAlerts _ kinds => isSet kinds
  | .unknownCommand _ type => decide (21 < type.toNat)
  | _ => true

/-- The command of the station controller that a row stands for, absent for a row that is an event or an unknown command. -/
def Instr.command : Instr → Option Command
  | .writeTable _ w => some (.writeTable w)
  | .readTable _ t i => some (.readTable t i)
  | .startRun _ => some .startRun
  | .stopRun _ => some .stopRun
  | .holdSmart _ => some .holdSmart
  | .holdForce _ => some .holdForce
  | .resume _ => some .resume
  | .newLot _ i p v => some (.newLot i p v)
  | .startUnit _ n p v => some (.startUnit n p v)
  | .abortUnit _ n => some (.abortUnit n)
  | .clearNestAlert _ n => some (.clearNestAlert n)
  | .clearFault _ => some .clearFault
  | .resetPart _ => some .resetPart
  | .setNotices _ ks => some (.setNotices ks)
  | .clearNotices _ ks => some (.clearNotices ks)
  | .setAlerts _ ks => some (.setAlerts ks)
  | .clearAlerts _ ks => some (.clearAlerts ks)
  | .ackAlerts _ ks => some (.ackAlerts ks)
  | .readStatus _ => some .readStatus
  | .readNest _ n => some (.readNest n)
  | .readLot _ => some .readLot
  | .readFaults _ => some .readFaults
  | _ => none

end Sys2Proof
end

