-- ==== Sys2Proof/Laws/PerInstr.lean ====
section
/-! SUPPORT. Statements about every row of the table, one lemma per constructor: the message that a row of the station controller stands
for carries a command of types 1 to 21 or, where the row is the unknown command, a type that is none (R189, R194, R195). -/

namespace Sys2Proof.Laws.RowMessage

open Sys2Proof Sys2Proof.Machine

/-- A row that stands for a command stands for a message that asks it, under a type from 1 to 21; any other row is an event, or a message
that asks no command. -/
def Statement (i : Instr) : Prop :=
  (∀ c, i.command = some c → ∃ tag, messageOf i = some ⟨tag, .command c⟩ ∧ 1 ≤ commandType c ∧ commandType c ≤ 21) ∧
    (i.command = none → ∀ b, messageOf i = some b → b.request = .unknown)

/-- The statement holds of every row, by its constructors. -/
theorem everyRow (i : Instr) : Statement i := by
  cases i <;> simp [Statement, Instr.command, messageOf, commandType]

theorem powerOn (levels : Levels) : Statement (.powerOn levels) := everyRow _

theorem inputHoldStart (i : Input) (level : Bool) : Statement (.inputHoldStart i level) := everyRow _

theorem debouncedEdge (i : Input) : Statement (.debouncedEdge i) := everyRow _

theorem frameEvent (f : InFrame) (down : Option DownFrame) (downFirst : Bool) : Statement (.frameEvent f down downFirst) := everyRow _

theorem referenceFrameEvent (down : Option DownFrame) (downFirst : Bool) : Statement (.referenceFrameEvent down downFirst) := everyRow _

theorem converterSyncLost : Statement (.converterSyncLost) := everyRow _

theorem permitInRise : Statement (.permitInRise) := everyRow _

theorem permitArrival : Statement (.permitArrival) := everyRow _

theorem permitPulseEnd : Statement (.permitPulseEnd) := everyRow _

theorem permitGapEnd : Statement (.permitGapEnd) := everyRow _

theorem holdLimitExpiry : Statement (.holdLimitExpiry) := everyRow _

theorem permitTimeout : Statement (.permitTimeout) := everyRow _

theorem quietGrant : Statement (.quietGrant) := everyRow _

theorem loudGatePass : Statement (.loudGatePass) := everyRow _

theorem settleEnd (n : NestId) : Statement (.settleEnd n) := everyRow _

theorem pairGrant : Statement (.pairGrant) := everyRow _

theorem windowOpen (n : NestId) : Statement (.windowOpen n) := everyRow _

theorem lastWindowFrame (n : NestId) : Statement (.lastWindowFrame n) := everyRow _

theorem windowClose : Statement (.windowClose) := everyRow _

theorem windowlessStepEnd (n : NestId) : Statement (.windowlessStepEnd n) := everyRow _

theorem guardBlockEnd : Statement (.guardBlockEnd) := everyRow _

theorem figureUnitTake : Statement (.figureUnitTake) := everyRow _

theorem figureUnitCompletion : Statement (.figureUnitCompletion) := everyRow _

theorem retryStart (n : NestId) : Statement (.retryStart n) := everyRow _

theorem grading (n : NestId) : Statement (.grading n) := everyRow _

theorem disposal (n : NestId) : Statement (.disposal n) := everyRow _

theorem abortedDisposal (n : NestId) : Statement (.abortedDisposal n) := everyRow _

theorem disposalStall (n : NestId) : Statement (.disposalStall n) := everyRow _

theorem markerFrameStart : Statement (.markerFrameStart) := everyRow _

theorem sendCompletion : Statement (.sendCompletion) := everyRow _

theorem ack : Statement (.ack) := everyRow _

theorem nak : Statement (.nak) := everyRow _

theorem replyTimeout : Statement (.replyTimeout) := everyRow _

theorem validationCompletion : Statement (.validationCompletion) := everyRow _

theorem heldReached : Statement (.heldReached) := everyRow _

theorem waitingReply : Statement (.waitingReply) := everyRow _

theorem reportsDropped : Statement (.reportsDropped) := everyRow _

theorem writeTable (tag : Byte) (w : TableWrite) : Statement (.writeTable tag w) := everyRow _

theorem readTable (tag : Byte) (t : TableId) (index : Nat) : Statement (.readTable tag t index) := everyRow _

theorem startRun (tag : Byte) : Statement (.startRun tag) := everyRow _

theorem stopRun (tag : Byte) : Statement (.stopRun tag) := everyRow _

theorem holdSmart (tag : Byte) : Statement (.holdSmart tag) := everyRow _

theorem holdForce (tag : Byte) : Statement (.holdForce tag) := everyRow _

theorem resume (tag : Byte) : Statement (.resume tag) := everyRow _

theorem newLot (tag : Byte) (lotId serialPrefix serial : Text) : Statement (.newLot tag lotId serialPrefix serial) := everyRow _

theorem startUnit (tag : Byte) (nest plan : Nat) (prior : Option Text) : Statement (.startUnit tag nest plan prior) := everyRow _

theorem abortUnit (tag : Byte) (nest : Nat) : Statement (.abortUnit tag nest) := everyRow _

theorem clearNestAlert (tag : Byte) (nest : Nat) : Statement (.clearNestAlert tag nest) := everyRow _

theorem clearFault (tag : Byte) : Statement (.clearFault tag) := everyRow _

theorem resetPart (tag : Byte) : Statement (.resetPart tag) := everyRow _

theorem setNotices (tag : Byte) (kinds : List NoticeArg) : Statement (.setNotices tag kinds) := everyRow _

theorem clearNotices (tag : Byte) (kinds : List NoticeArg) : Statement (.clearNotices tag kinds) := everyRow _

theorem setAlerts (tag : Byte) (kinds : List NoticeArg) : Statement (.setAlerts tag kinds) := everyRow _

theorem clearAlerts (tag : Byte) (kinds : List NoticeArg) : Statement (.clearAlerts tag kinds) := everyRow _

theorem ackAlerts (tag : Byte) (kinds : List NoticeArg) : Statement (.ackAlerts tag kinds) := everyRow _

theorem readStatus (tag : Byte) : Statement (.readStatus tag) := everyRow _

theorem readNest (tag : Byte) (nest : Nat) : Statement (.readNest tag nest) := everyRow _

theorem readLot (tag : Byte) : Statement (.readLot tag) := everyRow _

theorem readFaults (tag : Byte) : Statement (.readFaults tag) := everyRow _

theorem unknownCommand (tag : Byte) (type : Byte) : Statement (.unknownCommand tag type) := everyRow _

end Sys2Proof.Laws.RowMessage
end

