-- ==== Sys2Proof/Tests/Slice0.lean ====
section
/-! SUPPORT. The tests: worked examples and tables of the spec (each named in its comment), the smoke test of the well-formedness checks,
and for every statement of Obligations.lean with hypotheses a witness that meets them. Expected values are those of the spec. -/

-- One theorem at a time: the kernel evaluations of this file would otherwise all run at once, each with a stack of its own.
set_option Elab.async false

namespace Sys2Proof.Tests

open Sys2Proof Sys2Proof.Machine

/-! ## Small states -/

/-- The state that a row leaves. -/
def after (i : Instr) (s : State) : State :=
  match exec i s with
  | .next t => t
  | .fault _ => s
  | .refused _ => s

/-- The states that rows leave one after another. -/
def afterAll (l : List Instr) (s : State) : State := l.foldl (fun s i => after i s) s

/-- The code and the data of the last reply queued. -/
def lastReply (s : State) : Option (ReplyCode × ReplyData) :=
  match s.port.results.getLast? with
  | some (.reply r) => some (r.code, r.data)
  | _ => none

/-- Nothing judged. -/
def judgeNone : JudgeSet := ⟨none, none, none, none, none⟩

/-- A neutral two-step segment at 640 Hz, RESPONSE judged. -/
def segA : Segment := ⟨240, 2, 48, -200, 5, 20, 96, false, false, { judgeNone with response := some 0 }, 6, 20⟩

/-- A quiet trimmed segment, and a loud segment without a judge set. -/
def segQ : Segment := { segA with stepCount := 1, quiet := true, trim := true, settleFrames := 0, rampFrames := 0 }

/-- The loud segment. -/
def segL : Segment := { segA with stepCount := 1, level := 0, judge := judgeNone }

/-- Tables that pass validation: three segments, plan 2, one mask, two rules, a template and the calibration of every nest. -/
def tables : Tables :=
  { Tables.powerOn with
    segments := ((Tables.powerOn.segments.set 0 (some segA)).set 1 (some segQ)).set 2 (some segL)
    plans := Tables.powerOn.plans.set 2 ⟨[.segment 0, .segment 1, .again 1 1, .segment 2], 1, [83]⟩
    masks := Tables.powerOn.masks.set 0 (some ⟨.response, [⟨0, some 30, some (-30)⟩, ⟨480, some 30, some (-30)⟩]⟩)
    grades := (Tables.powerOn.grades.set 0 (some ⟨[.findings [.window] [.invalid] .atLeast 1], 9, [78], 7, none⟩)).set 5
      (some ⟨[], 0, [80], 0, some 2⟩)
    templates := Tables.powerOn.templates.set 2 (some [.serial, .bin])
    calibration := Vector.replicate 4 (some ⟨35, 800⟩) }

/-- A part in STANDBY and in sync, at access level ENGINEER, with nest 0 LOADED. -/
def idle : State :=
  { State.powerOn ⟨#v[true, false, false, false], #v[true, false, false, false], true, false, true⟩ [] with
    conv := { Converter.powerOn with inSync := true }
    tables := tables }

/-- The same part in RUN, with an open lot. -/
def running : State :=
  { idle with
    run := { RunControl.powerOn with mode := .run, mark := true }
    lot := { LotCounters.powerOn with isOpen := true, lotId := [75, 50], serialPrefix := [86, 76, 56, 45], nextSerial := 412133 } }

/-- The part in another mode. -/
def inMode (m : Mode) (s : State) : State := s.setRun { s.run with mode := m }

/-- The Unit Record of a unit under plan 2. -/
def unit : UnitRecord := UnitRecord.start 412133 none 2

/-- Nest 1 of the running part in TESTING, in this step phase of this step. -/
def testing (phase : StepPhase) (st : Step) : State :=
  running.setNest 1 { Nest.atReset false with state := .testing, phase := some phase, step := some st, record := some unit }

/-- Step (0, 0), a neutral one. -/
def stepA : Step := makeStep tables 0 0 false true

/-- Step (1, 0), a quiet one. -/
def stepQ : Step := makeStep tables 1 0 false true

/-- Step (2, 0), a loud one without a judge set. -/
def stepL : Step := makeStep tables 2 0 false true

/-- A window record of nest 1 with this last frame. -/
def windowAt (last : Nat) : WindowRecord :=
  ⟨1, 412133, false, 0, 0, 240, -200, { judgeNone with response := some 0 }, .neutral, 96, last, 0, [⟨.mic, 1, 0, 0⟩], false, .none⟩

/-- Nest 1 in FINISHING with this Unit Record. -/
def finishing (r : UnitRecord) : State := running.setNest 1 { Nest.atReset false with state := .finishing, record := some r }

/-- A disposition under template 2. -/
def passed : Disposition := ⟨0, [80], 0, some 2, [.serial, .bin]⟩

/-- Nest 1 in DISPOSING with this Unit Record. -/
def disposing (r : UnitRecord) : State :=
  (running.setNest 1 { Nest.atReset false with state := .disposing, record := some r, stall := some .start }).setDisposing [1]

/-- A label record. -/
def label (v : Nat) : Label := ⟨v, 2, [65, 66], false⟩

/-- The running part with these labels, in this send state and with this retry count. -/
def marking (labels : List Label) (send : SendState) (retry : Nat) : State :=
  running.setMarker { Marker.atReset with labels := labels, send := send, retry := retry, replyLimit := 50, replyTimer := some ⟨48000, false⟩ }

/-- A frame with the same sample in every slot. -/
def flat (x : Sample) (overload : Bool) : InFrame :=
  ⟨Vector.replicate 4 ⟨x, overload⟩, Vector.replicate 4 ⟨x, overload⟩, Vector.replicate 2 ⟨x, overload⟩⟩

/-- The downstream frame of filler with HOLD_OFF clear. -/
def filler : DownFrame := #v[0, 0, 0, 0, 0, 0]

/-! ## Worked examples and tables of the spec -/

/-- R35, its table of amplitudes, and R25, two entries. -/
theorem test_amplitudes :
    driveAmplitude (-200) = 838861 ∧ driveAmplitude (-600) = 8389 ∧ increment 240 = 28633115 ∧ increment 479 < increment 480 := by
  decide +kernel

/-- Chapter 2, worked example: a ramp between levels. -/
theorem test_ramp :
    ([0, 1, 2, 3, 4, 5].map fun k => frameAmplitude { Nest.atReset false with
      state := .testing, phase := some .settle, count := k, synth := { Synth.zero with rampStart := 8389 }
      step := some { stepA with ramp := 5, settle := 480, target := 838861 } }) =
      [174483, 340578, 506672, 672767, 838861, 838861] := by
  decide +kernel

/-- Chapter 2, worked example: a trimmed window at 640 Hz: the 46th frame of OPEN_WAIT is the first wrap frame. -/
theorem test_trimmed_window :
    let x (phase : Phase) : Nest := { Nest.atReset false with
      state := .testing, phase := some .openWait, step := some stepA, synth := { Synth.zero with phase := phase, inc := 28633115 } }
    let p := (3000000000 : Phase) + 45 * 28633115
    (x p).advanceSynth.wrapped = true ∧ (x p).advanceSynth.phase = 22155994 ∧ (x (p - 28633115)).advanceSynth.wrapped = false := by
  decide +kernel

/-- Chapter 2, worked example: walking a plan with nested repeats. -/
theorem test_plan_walk :
    let entries : List PlanEntry := [.segment 10, .segment 11, .again 1 2, .segment 12, .again 4 1, .segment 13]
    takeEntry entries walkFuel [] 2 = (.at_ 1 0, [⟨2, 2⟩]) ∧ takeEntry entries walkFuel [⟨2, 2⟩] 2 = (.at_ 1 0, [⟨2, 1⟩]) ∧
      takeEntry entries walkFuel [⟨2, 1⟩] 2 = (.at_ 3 0, []) ∧ takeEntry entries walkFuel [] 4 = (.at_ 0 0, [⟨4, 1⟩]) ∧
      takeEntry entries walkFuel [⟨4, 1⟩] 2 = (.at_ 1 0, [⟨4, 1⟩, ⟨2, 2⟩]) ∧ takeEntry entries walkFuel [⟨4, 1⟩] 4 = (.at_ 5 0, []) ∧
      takeEntry entries walkFuel [] 6 = (.end_, []) := by
  decide +kernel

/-- R64, the pair counts of typical steps. -/
theorem test_pair_counts :
    let j : JudgeSet := ⟨some 0, some 1, some 2, none, some 3⟩
    let n (j : JudgeSet) (c lo hi : Nat) := (pairList j (increment c) lo hi).length
    [n j 240 10 20, n { j with crest := some 4 } 288 6 40, n j 336 6 20, n j 432 6 20, n j 0 6 40, n { judgeNone with impedance := some 3 } 100 6 20]
      = [17, 32, 16, 4, 41, 1] := by
  decide +kernel

/-- R86, levels of typical blocks of 96 frames. -/
theorem test_guard_levels :
    let b := 96 * fullScale ^ 2
    [roundLog (48 * 8388607 ^ 2) b, roundLog (48 * 838861 ^ 2) b, roundLog (48 * 83886 ^ 2) b, roundLog (96 * 8389 ^ 2) b, roundLog 0 b]
      = [-30, -230, -430, -600, -1500] := by
  decide +kernel

/-- Chapter 5, worked example: the streams at block ends 1002 to 1006 with D = 2 (the QUIET stream, then the NORMAL one). -/
theorem test_streams :
    let q := (Stream.zero.advance 2 1002 true).1
    q = ⟨1, false, some 1002⟩ ∧ q.advance 2 1003 true = (⟨2, true, some 1002⟩, some 1002, true) ∧
      (q.advance 2 1003 true).1.advance 2 1004 false = (Stream.zero, none, false) ∧
      (Stream.zero.advance 2 1005 true).1.advance 2 1006 true = (⟨2, true, some 1005⟩, some 1005, true) := by
  decide +kernel

/-- The record of chapter 6's worked case of a full step at 640 Hz: an amplitude A stands in the sums as A × 32,767 × 9,600 / 2. -/
def fullStep : WindowRecord :=
  let sum (c : Channel) (h : Nat) (a : Int) : Pair := ⟨c, h, a * 157281600, 0⟩
  { windowAt 0 with
    mEff := 9600, peak := 1677722, judge := ⟨some 0, some 1, some 2, some 3, some 4⟩
    sums := [sum .mic 1 838861, sum .mic 2 8389, sum .mic 3 4194, sum .mic 4 0, sum .mic 5 0]
      ++ (List.range 11).map (fun k => sum .mic (k + 10) 839) ++ [sum .cur 1 1048576] }

/-- Chapter 6, worked case: a full step at 640 Hz, the five values. -/
theorem test_figures :
    [responseValue fullStep ⟨35, 800⟩, thdValue fullStep, rubValue fullStep, crestValue fullStep, impedanceFigure fullStep ⟨35, 800⟩ (-900)]
      = [35, -390, -496, 60, 640] := by
  decide +kernel

/-- Chapter 6, worked case: limits between breakpoints. -/
theorem test_limits :
    [271, 264, 300].map (limitAt [(240, some (-450)), (288, some (-550))]) = [some (-515), some (-500), some (-550)] ∧
      [101, 102].map (limitAt [(100, some (-400)), (104, some (-410))]) = [some (-403), some (-405)] ∧
      limitAt [(0, some 1200), (144, some 1000), (480, some 1000)] 72 = some 1100 ∧
      limitAt [(0, none), (144, some 400), (480, some 400)] 72 = none := by
  decide +kernel

/-- R115, the tests of its table. -/
theorem test_comparison :
    compareLimits 35 (some 30) (some (-30)) = (.high, some 30) ∧ compareLimits 30 (some 30) (some (-30)) = (.pass, some 30) ∧
      compareLimits (-31) (some 30) (some (-30)) = (.low, some (-30)) ∧ compareLimits 5 none none = (.pass, none) := by
  decide +kernel

/-- Chapter 8, worked example: serials at the end of the range. -/
theorem test_serials :
    let l := { LotCounters.powerOn with isOpen := true, nextSerial := 99999998 }
    let a := l.start none
    let b := a.start none
    (a.nextSerial, a.exhausted) = (99999999, false) ∧ (b.nextSerial, b.exhausted) = (99999999, true) ∧
      (b.start (some 99999998)).counts.started.value = 3 := by
  decide +kernel

/-- Chapter 8, worked example: a rolling window at its threshold, units 16 to 19. -/
theorem test_rolling_window :
    let u (x : Bool) : Disposition := ⟨0, [], if x then 0 else 1, none, []⟩
    let go (s : State) (x : Bool) := countGraded 0 unit (u x) s
    let s0 := running.setLot { running.lot with settings := ⟨16, 12, 0⟩ }
    let p := true
    let f := false
    let s16 := [p, p, f, p, p, p, p, p, f, p, p, p, p, p, f, p].foldl go s0
    let s18 := go (go s16 f) f
    (s16.lot.passCount, s16.lot.yieldLow) = (13, false) ∧ (s18.lot.passCount, s18.lot.yieldLow) = (11, true) ∧
      ((go s18 p).lot.passCount, (go s18 p).lot.yieldLow) = (12, false) := by
  decide +kernel

/-- Chapter 8, worked example: a nest alert and the lot counts. -/
theorem test_nest_alert :
    let d (bin code : Nat) : Disposition := ⟨code, [], bin, none, []⟩
    let retest := { unit with prior := some 5 }
    let s := running.setLot { running.lot with settings := ⟨32, 0, 3⟩ }
    let t := countAborted (countGraded 2 retest (d 2 3) (countGraded 2 unit (d 1 2) (countGraded 2 unit (d 0 0) (countGraded 2 unit (d 2 3) s))))
    let v := countGraded 2 unit (d 7 9) t
    (t.lot.fails[2], t.lot.alerts[2]) = (2, false) ∧ (v.lot.fails[2], v.lot.alerts[2]) = (3, true) ∧
      (v.lot.counts.graded.value, v.lot.counts.aborted.value, v.lot.counts.retestGraded.value) = (5, 1, 1) ∧
      (v.lot.counts.nestGraded[2].value, v.lot.counts.nestPassed[2].value, v.lot.counts.perGrade[3].value) = (5, 1, 2) := by
  decide +kernel

/-- R158, the figure texts. -/
theorem test_figure_texts :
    figureText .response 35 = [43, 51, 46, 53] ∧ figureText .rub (-496) = [45, 52, 57, 46, 54] ∧
      figureText .thd (-1500) = [45, 49, 53, 48, 46, 48] ∧ figureText .crest 0 = [43, 48, 46, 48] ∧
      [640, 645, 65535, 4].map (figureText .impedance) =
        [[54, 46, 52], [54, 46, 53], [54, 53, 53, 46, 52], [48, 46, 48]] := by
  decide +kernel

/-- Chapter 9, worked example: composing a label. -/
theorem test_label :
    let f (k : FindingKind) (v : Int) : Finding := ⟨0, 0, 240, k, .pass, some v, none, none⟩
    let r := { unit with findings := [f .response 35, f .impedance 640] }
    let d : Disposition := ⟨1, [66, 45, 71, 82, 65, 68, 69], 1, some 2,
      [.literal [76, 56], .serial, .lot, .gradeName, .bin, .nest, .figure .response, .figure .crest, .figure .impedance, .lotCount]⟩
    let l := { running.lot with lotId := [75, 50, 50, 48, 55], counts := { LotCounts.zero with graded := ⟨1288, false⟩ } }
    (composeLabel 1 r d l).truncated = false ∧ (composeLabel 1 r d l).text =
      [76, 56, 124, 86, 76, 56, 45, 48, 48, 52, 49, 50, 49, 51, 51, 124, 75, 50, 50, 48, 55, 124, 66, 45, 71, 82, 65, 68, 69, 124, 49, 124,
        78, 49, 124, 43, 51, 46, 53, 124, 45, 124, 54, 46, 52, 124, 49, 50, 56, 56] := by
  decide +kernel

/-- Chapter 9, worked example: twelve SERIAL fields are cut at 120 characters, after "|VL8". -/
theorem test_truncated_label :
    let l := composeLabel 1 unit ⟨0, [], 0, some 2, List.replicate 12 .serial⟩ running.lot
    l.truncated = true ∧ l.text.length = 120 ∧ l.text.drop 116 = [124, 86, 76, 56] := by
  decide +kernel

/-- R189: the check of the frame with HOLD_OFF set, and of the frame of zeros. -/
theorem test_frame_check : frameCheck [1, 0, 0, 0, 0] = 98 ∧ frameCheck [0, 0, 0, 0, 0] = 0 := by decide +kernel

/-- R185: a START_RUN before the tables are written is answered TABLE_INVALID with detail 401 at index 0. -/
theorem test_empty_tables : validate Tables.powerOn = some ⟨401, 0⟩ := by decide +kernel

/-- R174: tables that break no condition pass. -/
theorem test_valid_tables : validate tables = none := by decide +kernel

/-! ## The well-formedness checks -/

/-- Each check refuses an ill-formed row: a payload too long, a set with a member twice, a value outside its storage range, and the type of
a command or of filler under UNKNOWN_COMMAND; and a well-formed row passes. -/
theorem test_wellFormed :
    let long : Text := List.replicate 251 65
    let rule : GradeRule := ⟨[], 0, [], 0, none⟩
    [Instr.writeTable 1 (.plan 0 (some ⟨List.replicate 251 (.segment 0), 0, []⟩)), .writeTable 1 (.plan 0 (some ⟨[], 0, long⟩)),
      .writeTable 1 (.mask 0 (some ⟨.thd, List.replicate 251 ⟨0, none, none⟩⟩)),
      .writeTable 1 (.grade 0 (some { rule with name := long })), .writeTable 1 (.grade 0 (some { rule with conditions := [.nest [1, 1]] })),
      .writeTable 1 (.grade 0 (some { rule with conditions := [.findings [.thd, .thd] [] .atLeast 1] })),
      .writeTable 1 (.grade 0 (some { rule with conditions := [.findings [] [.high, .high] .atLeast 1] })),
      .writeTable 1 (.grade 0 (some { rule with conditions := List.replicate 251 (.retest true) })),
      .writeTable 1 (.labelTemplate 0 (some [.known (.literal long)])), .writeTable 1 (.labelTemplate 0 (some (List.replicate 251 (.unknown 9)))),
      .writeTable 1 (.calibration 0 (some ⟨32768, 0⟩)), .writeTable 1 (.calibration 0 (some ⟨-32769, 0⟩)),
      .writeTable 1 (.calibration 0 (some ⟨0, 65536⟩)),
      .newLot 1 long [] [], .newLot 1 [] long [], .newLot 1 [] [] long, .startUnit 1 0 0 (some long),
      .setNotices 1 [.known .yieldLow, .known .yieldLow], .clearNotices 1 [.unknown 9, .unknown 9], .setAlerts 1 [.unknown 9, .unknown 9],
      .clearAlerts 1 [.unknown 9, .unknown 9], .ackAlerts 1 [.unknown 9, .unknown 9], .unknownCommand 1 21, .unknownCommand 1 0].all
        (fun i => !i.wellFormed) = true ∧
      [Instr.writeTable 1 (.calibration 0 (some ⟨-32768, 65535⟩)), .setNotices 1 [.known .yieldLow], .unknownCommand 1 22, .readLot 1].all
        Instr.wellFormed = true := by
  decide +kernel

/-- The table gives no bits: no word spells a command, and a state is unchanged by the fetch of one (log entry 25). -/
theorem test_no_bits : decodeTableWord 8 18 = none ∧ (idle.withFetchWord 8 18).pending = [] := by decide +kernel

/-! ## One step of each row -/

/-- R24 and R185: a nest present and clamped at the release of RESET_N is LOADED. -/
theorem test_powerOn :
    let t := after (.powerOn ⟨#v[true, true, false, false], #v[true, false, true, false], true, false, false⟩) running
    (t.nest 0).state = .loaded ∧ (t.nest 1).state = .empty ∧ (t.nest 2).state = .empty ∧ t.run.mode = .standby := by
  decide +kernel

/-- R1: 10 ms of the reference clock are 960 frame periods; a return of the level abandons the hold. -/
theorem test_input_hold :
    let s := after (.inputHoldStart (.clamp 0) false) idle
    (s.inputs.clamp[0].hold, (after (.inputHoldStart (.clamp 0) true) s).inputs.clamp[0].hold) = (some 0, none) ∧
      ((after (.debouncedEdge (.clamp 0)) (tick 959 s)).nest 0).state = .loaded ∧
      ((after (.debouncedEdge (.clamp 0)) (tick 960 s)).nest 0).state = .empty := by
  decide +kernel

/-- R199: an ALERT_CLR edge empties the pending set. -/
theorem test_alert_clr :
    let s := after (.inputHoldStart .alertClr true) (handOver (.reportsDropped 1) idle)
    (after (.debouncedEdge .alertClr) (tick 960 s)).port.alertPending = Vector.replicate 8 false := by
  decide +kernel

/-- R187, R189: a frame is counted, and the upstream frame of a part in RUN carries mode 1 in byte 24. -/
theorem test_frame_event :
    let t := after (.frameEvent (flat 5 false) (some filler) true) running
    t.conv.frameNumber = 1 ∧ t.port.upstream.length = 30 ∧ t.port.upstream[24]? = some 1 ∧ t.port.badFrames = 0 := by
  decide +kernel

/-- R191: a frame whose check does not match is counted, and so is an absent one. -/
theorem test_bad_frames :
    (after (.frameEvent (flat 0 false) (some #v[1, 0, 0, 0, 0, 97]) true) idle).port.badFrames = 1 ∧
      (after (.frameEvent (flat 0 false) none false) idle).port.badFrames = 1 ∧
      (after (.frameEvent (flat 0 false) (some #v[1, 0, 0, 0, 0, 98]) true) idle).port.holdOff = true := by
  decide +kernel

/-- R188: a frame timed from the reference clock comes in LOST only, and sends no drive slots. -/
theorem test_reference_frame :
    let lost := idle.setConv { idle.conv with inSync := false }
    (after (.referenceFrameEvent (some filler) true) idle).conv.frameNumber = 0 ∧
      (after (.referenceFrameEvent (some filler) true) lost).conv.frameNumber = 1 ∧
      (after (.referenceFrameEvent (some filler) true) lost).conv.inSync = false ∧
      (after (.frameEvent (flat 0 false) (some filler) true) lost).conv.inSync = true := by
  decide +kernel

/-- In a state in which nothing is due and no hold, timer or validation runs, a millisecond without frames changes nothing. -/
theorem lapse_still (s : State) (hd : NothingDue s) (ht : ∀ k, tick k s = s) : lapse 96 s = s := by
  rw [lapse_nothingDue _ fun j _ => by rwa [ht], ht]

/-- The part in RUN stands still in time. -/
theorem running_still (k : Nat) : tick k running = running :=
  tick_still k (by decide +kernel) (by decide +kernel) (by decide +kernel) (by decide +kernel) (by decide +kernel) rfl rfl

/-- The part in STANDBY stands still in time. -/
theorem idle_still (k : Nat) : tick k idle = idle :=
  tick_still k (by decide +kernel) (by decide +kernel) (by decide +kernel) (by decide +kernel) (by decide +kernel) rfl rfl

/-- `FaultsAreRecorded`: a millisecond in which nothing falls due, in RUN and in STANDBY. -/
theorem witness_lapse : (∀ j < 96, NothingDue (tick j running)) ∧ lapse 96 running = running ∧ lapse 96 idle = idle := by
  have hr : NothingDue running := by decide +kernel
  exact ⟨fun j _ => by rwa [running_still], lapse_still _ hr running_still, lapse_still _ (by decide +kernel) idle_still⟩

/-- A loss of sync is the declaration on the state that the millisecond leaves (R188). -/
theorem loss_after (s t : State) (hs : s.conv.inSync = true) (hl : lapse 96 s = t) :
    after .converterSyncLost s = settle (declareLoss t) := by
  simp [after, exec, execConverterSyncLost, hs, Config.framesPerMs, hl]

/-- R188, R180: a loss of sync in RUN stops the part with fault 10; in STANDBY the mode is kept. -/
theorem test_sync_lost :
    let t := after .converterSyncLost running
    t.run.mode = .stopped ∧ t.conv.inSync = false ∧ t.run.count = 1 ∧ t.run.latched[0] = true ∧ t.run.first.isSome = true ∧
      (after .converterSyncLost idle).run.mode = .standby := by
  rw [loss_after _ _ rfl witness_lapse.2.1, loss_after _ _ rfl witness_lapse.2.2]
  decide +kernel

/-- R173: a validation at 49.5 ms completes within the millisecond without frames, at its bound, and so before the loss is declared. -/
theorem test_validation_before_loss :
    let s := idle.setRun { idle.run with validation := some ⟨9, 4752⟩ }
    NothingDue s ∧ NothingDue (tick 47 s) ∧
      ((lapse 2 (tick 47 s)).run.mode, (lapse 2 (tick 47 s)).run.validation) = (.run, none) := by
  decide +kernel

/-- R99: a computation is over before the 49th frame event, and is not forced earlier. -/
theorem test_computation_bound :
    let c (k : Nat) := running.setStore { running.store with free := 11, computing := some ⟨windowAt 40, k⟩ }
    let f := Instr.frameEvent (flat 0 false) (some filler) true
    ((after f (c 47)).store.computing.map (·.frames), (after f (c 48)).store.computing.map (·.frames)) = (some 48, none) := by
  decide +kernel

/-- R173: a validation is over before time passes 50 ms, and is not forced earlier. -/
theorem test_validation_bound :
    let v (k : Nat) := (idle.setRun { idle.run with validation := some ⟨9, k⟩ }).setPort { idle.port with holdOff := true }
    let f := Instr.frameEvent (flat 0 false) (some filler) false
    ((after f (v 4799)).run.validation.map (·.elapsed), (after f (v 4800)).run.validation.map (·.elapsed)) = (some 4800, none) := by
  decide +kernel

/-- R39, R44: a frame counts in SETTLE and in MEASURE, with or without a window, and not in a wait. -/
theorem test_frame_count :
    let count (phase : StepPhase) (st : Step) :=
      ((after (.frameEvent (flat 0 false) (some filler) true) (testing phase st)).nest 1).count
    (count .settle stepA, count .measure stepA, count .measure stepL, count .gateWait stepA, count .allocWait stepA) = (1, 1, 1, 0, 0) := by
  decide +kernel

/-- The part in role MEMBER with a nest waiting for quiet, with or without the permit. -/
def waiting (held : Bool) : State :=
  let s := testing .gateWait stepQ
  ((s.setTables { s.tables with config := { s.tables.config with role := .member } }).setArbiter { s.arbiter with queue := [1] }).setPermit
    { s.permit with held := held, holdTimer := (if held then some ⟨0, false⟩ else none), waitTimer := (if held then none else some ⟨0, false⟩) }

/-- R54, R55: the permit that a frame finds latched is taken with a request queued, and the queue's head is granted quiet (R49). -/
theorem test_permit_arrival :
    let s := after .permitInRise (waiting false)
    let t := afterAll [.frameEvent (flat 0 false) (some filler) true, .permitArrival] s
    s.permit.latch = true ∧ (after .permitArrival s).permit.held = false ∧ t.permit.held = true ∧ t.permit.latch = false ∧
      t.arbiter.holder = some 1 ∧ t.arbiter.queue = [] := by
  decide +kernel

/-- R57: two frames of pulse and two of gap; a pending pulse follows at once. -/
theorem test_out_cycle :
    let s (c : OutCycle) := running.setPermit { running.permit with cycle := c, pendingOut := true }
    (after .permitPulseEnd (s (.pulse 1))).permit.cycle = .pulse 1 ∧ (after .permitPulseEnd (s (.pulse 2))).permit.cycle = .gap 0 ∧
      (after .permitGapEnd (s (.gap 1))).permit.cycle = .gap 1 ∧ (after .permitGapEnd (s (.gap 2))).permit.cycle = .pulse 0 ∧
      (after .permitGapEnd (s (.gap 2))).permit.pendingOut = false := by
  decide +kernel

/-- R58: the expiry of the hold timer waits for the quiet holder. -/
theorem test_hold_limit :
    let s := (waiting true).setPermit { (waiting true).permit with holdTimer := some ⟨9600, false⟩ }
    let held := s.setArbiter { s.arbiter with queue := [], holder := some 1 }
    (after .holdLimitExpiry s).permit.held = false ∧ (after .holdLimitExpiry s).permit.cycle = .pulse 0 ∧
      (after .holdLimitExpiry held).permit.held = true := by
  decide +kernel

/-- R59, R60: under CONTINUE a MEMBER part withdraws its quiet requests; the default action STOP stops it. -/
theorem test_permit_timeout :
    let s := (waiting false).setPermit { (waiting false).permit with waitTimer := some ⟨192000, false⟩ }
    let c := s.setTables { s.tables with config := { s.tables.config with actionTimeout := .continue_ } }
    (after .permitTimeout s).run.mode = .stopped ∧ (after .permitTimeout c).run.mode = .run ∧ (after .permitTimeout c).arbiter.queue = [] ∧
      ((after .permitTimeout c).nest 1).record.map (fun r => r.findings.map (·.cause)) = some [some .quietUnavailable] := by
  decide +kernel

/-- R60, R128: the withdrawn retry of nest 2, first in the queue, goes on to its next quiet retry before nest 1 moves on to its next quiet
step, and both rejoin in the former order; the wait timer starts afresh. -/
theorem test_withdrawal_order :
    let r := { unit with retryList := [⟨1, 0⟩], position := .retry 1 0, retriesUsed := 1 }
    let x := (testing .gateWait { stepQ with retry := true }).nest 1
    let s := ((waiting false).modRecord 1 fun q => { q with position := .at_ 1 0 }).setNest 2 { x with record := some r }
    let t := after .permitTimeout ((s.setArbiter { s.arbiter with queue := [2, 1] }).setPermit
      { s.permit with waitTimer := some ⟨192000, false⟩ } |>.setTables { s.tables with config :=
        { s.tables.config with actionTimeout := .continue_ } })
    t.arbiter.queue = [2, 1] ∧ t.permit.waitTimer = some ⟨0, false⟩ ∧
      (t.nest 2).record.map (fun q => (q.retriesUsed, q.retryList)) = some (2, []) ∧
      (t.nest 1).record.map (·.position) = some (.at_ 1 0) := by
  decide +kernel

/-- A MEMBER part with no record free: nest 0 waits for quiet with a record in Guard Hold, and nest 1 waits in CLOSE_WAIT before a quiet
step. -/
def queued (held : Bool) : State :=
  let x := (testing .gateWait stepQ).nest 1
  let s := ((waiting held).setNest 0 x).modRecord 0 fun r => { r with pending := 1 }
  let t := s.modNest 1 fun x => { x with
    phase := some .closeWait, step := some { stepA with step := 1 }, record := some { unit with position := .at_ 0 1 } }
  (t.setArbiter { t.arbiter with queue := [0] }).setStore
    { t.store with free := 0, guardHold := [{ windowAt 40 with nest := 0 }], closeWait := [1] }

/-- R52, R58: the abort that empties the queue passes a held permit before the freed record brings the next request. R59: the wait timer
returns to 0 at that abort, and starts with the new request. -/
theorem test_abort_empties_queue :
    let h := queued true
    let p := after (.abortUnit 7 0) (h.setArbiter { h.arbiter with loudPast := #v[false, false, false, true] })
    let w := after (.abortUnit 7 0) ((queued false).setPermit { (queued false).permit with waitTimer := some ⟨1000, false⟩ })
    (p.permit.held, p.permit.cycle, p.arbiter.queue, p.store.closeWait) = (false, .pulse 0, [1], []) ∧
      (w.permit.waitTimer, w.arbiter.queue) = (some ⟨0, false⟩, [1]) := by
  decide +kernel

/-- R49, R51: the grant waits for the loud-past set; the gate lets the waiting loud step through. -/
theorem test_quiet_and_loud :
    let s := testing .gateWait stepQ
    let q := s.setArbiter { s.arbiter with queue := [1] }
    let drained := s.setArbiter { s.arbiter with queue := [1], loudPast := #v[true, false, false, false] }
    let l := (testing .gateWait stepL).setArbiter { s.arbiter with loudWait := #v[false, true, false, false] }
    (after .quietGrant q).arbiter.holder = some 1 ∧ (after .quietGrant drained).arbiter.holder = none ∧
      (after .loudGatePass l).arbiter.loudPast[1] = true ∧ ((after .loudGatePass l).nest 1).phase = some .settle := by
  decide +kernel

/-- R39, R67: at the end of SETTLE one pair is asked for and granted at once, and the window opens. -/
theorem test_settle_end :
    let s := (testing .settle stepA).modNest 1 fun x => { x with count := 20 }
    let t := after (.settleEnd 1) s
    (t.nest 1).phase = some .measure ∧ (t.nest 1).pairs = [⟨.mic, 1, 0, 0⟩] ∧ t.bank.free = 95 ∧ t.guard.watch.length = 1 := by
  decide +kernel

/-- R67: the head waits while its request exceeds the free count. -/
theorem test_pair_grant :
    let s := (testing .allocWait stepA).setBank ⟨0, [(1, 1)]⟩
    (after .pairGrant s).bank.queue = [(1, 1)] ∧ (after .pairGrant (s.setBank ⟨1, [(1, 1)]⟩)).bank = ⟨0, []⟩ := by
  decide +kernel

/-- R41: the window opens at the end of a wrap frame. -/
theorem test_window_open :
    let s := (testing .openWait stepQ).modNest 1 fun x => { x with synth := { x.synth with wrapped := true }, pairs := [⟨.mic, 1, 0, 0⟩] }
    ((after (.windowOpen 1) s).nest 1).phase = some .measure ∧ ((after (.windowOpen 1) (testing .openWait stepQ)).nest 1).phase = some .openWait := by
  decide +kernel

/-- Nest 1 at the last frame of its window. -/
def ending : State :=
  let s := (testing .measure stepA).modNest 1 fun x => { x with count := 96, pairs := [⟨.mic, 1, 7, 0⟩], lastFrame := 95 }
  s.setBank { s.bank with free := 95 }

/-- R42, R73, R76: the window closes into Guard Hold and the walk goes on to AT (0, 1); with no record free the nest waits. -/
theorem test_last_window_frame :
    let t := after (.lastWindowFrame 1) ending
    let full := after (.lastWindowFrame 1) (ending.setStore { ending.store with free := 0 })
    t.store.free = 11 ∧ t.store.guardHold.map (fun w => (w.mEff, w.lastFrame, w.sums)) = [(96, 95, [⟨.mic, 1, 7, 0⟩])] ∧ t.bank.free = 96 ∧
      (t.nest 1).step.map (·.code) = some 288 ∧ (full.nest 1).phase = some .closeWait ∧ full.store.closeWait = [1] := by
  decide +kernel

/-- R76: a freed record goes to the head of the close-wait list. -/
theorem test_window_close :
    let s := (ending.modNest 1 fun x => { x with phase := some .closeWait }).setStore { ending.store with closeWait := [1] }
    (after .windowClose s).store.closeWait = [] ∧ (after .windowClose s).store.guardHold.length = 1 := by
  decide +kernel

/-- R44: a step with an empty judge set ends without a record. -/
theorem test_windowless :
    let s := (testing .measure stepL).modNest 1 fun x => { x with count := 96 }
    (after (.windowlessStepEnd 1) s).store.free = 12 ∧ ((after (.windowlessStepEnd 1) s).nest 1).step.map (·.code) = some 288 := by
  decide +kernel

/-- The guard at the end of block 3, with a window record of nest 1 whose last frame lies in block 2. -/
def blockEnd : State :=
  ((running.setNest 1 ((testing .measure stepA).nest 1)).setGuard { Guard.start with sum0 := 96 * 8388607 ^ 2, due := some 3 }).setStore
    { Store.atReset with free := 11, guardHold := [windowAt 287] }

/-- R85, R88, R93: the block's level, the run begun, and the release of the record whose release block has ended. -/
theorem test_guard_block_end :
    let t := after .guardBlockEnd blockEnd
    t.guard.last.map (·.level) = some 0 ∧ t.guard.normal = ⟨1, false, some 3⟩ ∧ t.store.guardHold = [] ∧ t.store.computing.isSome = true := by
  decide +kernel

/-- R98, R100: the record is taken, and its completion enters its finding, counts the window down and frees the record. -/
theorem test_figure_unit :
    let s := (testing .settle stepA).modRecord 1 fun r => { r with pending := 1 }
    let q := s.setStore { Store.atReset with free := 11, judgeQueue := [{ windowAt 95 with sums := [⟨.mic, 1, 838861 * 1572816, 0⟩] }] }
    let t := after .figureUnitCompletion (after .figureUnitTake q)
    t.store = .atReset ∧ (t.nest 1).record.map (·.pending) = some 0 ∧
      (t.nest 1).record.map (fun r => r.findings.map fun f => (f.kind, f.value, f.outcome)) = some [(.response, some 35, .high)] := by
  decide +kernel

/-- R127: the head key is retried. -/
theorem test_retry_start :
    let t := after (.retryStart 1) (finishing { unit with retryList := [⟨0, 1⟩, ⟨1, 0⟩], position := .end_ })
    (t.nest 1).state = .testing ∧ (t.nest 1).record.map (fun r => (r.retryList, r.retriesUsed, r.position)) = some ([⟨1, 0⟩], 1, .retry 0 1) := by
  decide +kernel

/-- R133, R161: the first rule that holds grades the unit; with both places free it is disposed in the same event, and sorted to PASS. -/
theorem test_grading :
    let t := after (.grading 1) (finishing { unit with position := .end_ })
    (t.nest 1).record.bind (·.disposition) = some passed ∧ (t.nest 1).state = .disposed ∧ (t.nest 1).pass = true ∧
      t.marker.labels.map (·.text) = [[86, 76, 56, 45, 48, 48, 52, 49, 50, 49, 51, 51, 124, 48]] := by
  decide +kernel

/-- R14, R21: a graded unit of bin 0 goes to PASS and leaves a label; an aborted one goes to REJECT and leaves none. -/
theorem test_disposal :
    let g := after (.disposal 1) (disposing { unit with disposition := some passed })
    let a := after (.abortedDisposal 1) (disposing { unit with abort := some .commanded })
    ((g.nest 1).pass, (g.nest 1).reject, g.marker.labels.length, g.lot.counts.graded.value) = (true, false, 1, 1) ∧
      ((a.nest 1).pass, (a.nest 1).reject, a.marker.labels.length, a.lot.counts.aborted.value) = (false, true, 0, 1) := by
  decide +kernel

/-- A full Result Queue of non-reply messages. -/
def full (s : State) : State := s.setPort { s.port with results := List.replicate 44 (.notice (.reportsDropped 1)) }

/-- R15: a disposal that has waited 10 s raises DISPOSAL_STALL once. -/
theorem test_disposal_stall :
    let s := (full (disposing { unit with abort := some .commanded })).modNest 1 fun x => { x with stall := some ⟨960000, false⟩ }
    let t := after (.disposalStall 1) s
    t.run.mode = .stopped ∧ t.run.history.map (·.detail) = [.stall .resultQueue] ∧ (after (.disposalStall 1) t).run.count = 1 := by
  decide +kernel

/-- R166, R167: STX, the text, ETX; the ACK removes the head. -/
theorem test_marker_line :
    let s := after .markerFrameStart (marking [label 7, label 8] .idle 0)
    let t := afterAll [.sendCompletion, .ack] s
    s.marker.frame = [2, 65, 66, 3] ∧ s.marker.send = .sending ∧ t.marker.labels.map (·.serial) = [8] ∧ t.marker.send = .sending := by
  decide +kernel

/-- R166, R167: the bits of ACK (6), least significant first; ACK is taken in AWAITING, and a byte without its stop bit is ignored. -/
theorem test_line_form :
    let ack : List LineBit := [.start, .data false, .data true, .data true, .data false, .data false, .data false, .data false, .data false]
    let s := marking [label 7, label 8] .awaiting 0
    lineForm 6 = ack ++ [.stop] ∧ receivedByte (lineForm 21) = some 21 ∧ (receiveLine (ack ++ [.stop]) s).isSome = true ∧
      receiveLine (ack ++ [.data true]) s = none ∧ receiveLine (lineForm 7) s = none := by
  decide +kernel

/-- Chapter 9, worked sequence: a refused label, under CONTINUE and under STOP. -/
theorem test_marker_fault :
    let stop := marking [label 7, label 8] .awaiting 1
    let continue_ := stop.setTables { stop.tables with config := { stop.tables.config with actionMarker := .continue_ } }
    (after .replyTimeout continue_).marker.labels.map (·.serial) = [8] ∧ (after .replyTimeout continue_).run.mode = .run ∧
      (after .replyTimeout continue_).run.history.map (fun r => (r.detail, r.serial)) = [(.marker .timeout, some 7)] ∧
      (after .nak stop).marker.labels.length = 2 ∧ (after .nak stop).marker.hold = true ∧ (after .nak stop).run.mode = .stopped := by
  decide +kernel

/-- Chapter 10, worked sequence: a refused start, then a start from valid tables. -/
theorem test_start_run :
    let bad := after (.startRun 11) (idle.setTables { tables with grades := tables.grades.set 5 (some ⟨[.retest true], 0, [80], 0, some 2⟩) })
    let good := after (.startRun 14) idle
    bad.run.validation.isSome = true ∧ lastReply (after (.writeTable 12 (.segment 0 none)) bad) = some (.busy, .none) ∧
      lastReply (after .validationCompletion bad) = some (.tableInvalid, .invalid 402 5) ∧
      (after .validationCompletion good).run.mode = .run ∧ lastReply (after .validationCompletion good) = some (.ok, .none) := by
  decide +kernel

/-- R176 to R178: HOLD SMART with no unit in flight reaches HELD in its event; RESUME, HOLD FORCE and STOP_RUN. -/
theorem test_run_commands :
    let f (i : Instr) (s : State) := (after i s).run.mode
    f (.holdSmart 1) running = .held ∧ f (.holdSmart 1) (testing .settle stepA) = .holding ∧ f (.resume 1) (inMode .held running) = .run ∧
      f (.holdForce 1) (testing .settle stepA) = .held ∧ f (.stopRun 1) running = .standby ∧ f .heldReached (inMode .holding running) = .held ∧
      lastReply (after (.stopRun 1) idle) = some (.wrongMode, .none) := by
  decide +kernel

/-- R195: what WRITE_TABLE refuses and stores; a TAP write leaves the mark. -/
theorem test_tables :
    let f (w : TableWrite) (s : State) := lastReply (after (.writeTable 1 w) s)
    f (.unknown 9) running = some (.badArgument, .none) ∧ f (.segment 0 none) running = some (.wrongMode, .none) ∧
      f (.segment 128 none) idle = some (.badArgument, .none) ∧
      (after (.writeTable 1 (.tap 7 (some (.known (.drv 2))))) running).tables.taps[7] = .drv 2 ∧
      (after (.writeTable 1 (.tap 7 none)) running).run.mark = true ∧
      lastReply (after (.readTable 1 .segment 0) running) = some (.ok, .entry (.segment (some segA))) ∧
      lastReply (after (.readTable 1 .tap 8) running) = some (.badArgument, .none) := by
  decide +kernel

/-- R146, R8: a lot and a unit are started. -/
theorem test_units :
    let s := after (.newLot 1 [75, 50] [86] [48, 48, 48, 57, 57, 57, 57, 56]) running
    let t := after (.startUnit 2 0 2 none) s
    lastReply s = some (.ok, .none) ∧ lastReply t = some (.ok, .started 99998 false) ∧ (t.nest 0).state = .testing ∧
      lastReply (after (.startUnit 2 1 2 none) s) = some (.nestNotReady, .none) ∧
      lastReply (after (.startUnit 2 0 0 none) s) = some (.badArgument, .none) ∧
      lastReply (after (.newLot 1 [75] [] [48]) s) = some (.badArgument, .none) ∧
      lastReply (after (.newLot 1 [75] [] [48, 48, 48, 57, 57, 57, 57, 56]) t) = some (.busy, .none) := by
  decide +kernel

/-- R18, R154: an abort by command, and the clearing of an alert. -/
theorem test_abort_and_alert :
    let s := testing .settle stepA
    let a := running.setLot { running.lot with fails := Vector.replicate 4 3, alerts := Vector.replicate 4 true }
    ((after (.abortUnit 1 1) s).nest 1).state = .empty ∧ (after (.abortUnit 1 1) s).lot.counts.aborted.value = 1 ∧ lastReply (after (.abortUnit 1 0) s) = some (.nestNotReady, .none) ∧
      (after (.clearNestAlert 1 2) a).lot.alerts = #v[true, true, false, true] ∧ (after (.clearNestAlert 1 2) a).lot.fails = #v[3, 3, 0, 3] := by
  decide +kernel

/-- R183, R184: the fault state is cleared; a reset keeps the history, the count and the Lot Record, and answers OK alone. -/
theorem test_clear_and_reset :
    let lost := settle (declareLoss running)
    let back := lost.setConv { lost.conv with inSync := true }
    let t := after (.resetPart 5) back
    lastReply (after (.clearFault 1) lost) = some (.conditionPresent, .none) ∧ (after (.clearFault 1) back).run.mode = .standby ∧
      (after (.clearFault 1) back).run.first = none ∧ (t.run.count, t.run.history.length, t.lot.isOpen, t.port.results.length) = (1, 1, true, 1) ∧
      lastReply t = some (.ok, .none) ∧ lastReply (after (.resetPart 1) (idle.setInputs { idle.inputs with engEnable := .settled false })) =
        some (.notPermitted, .none) := by
  decide +kernel

/-- R198, R199: an enabled kind makes a NOTICE; a pending kind that is enabled drives ALERT; an unknown kind refuses the command. -/
theorem test_notices :
    let s := afterAll [.setNotices 1 [.known .modeChanged], .setAlerts 1 [.known .modeChanged], .stopRun 1] running
    (s.port.results.map Message.isReply) = [true, true, false, true] ∧ alertHigh s.port = true ∧
      alertHigh (after (.ackAlerts 1 [.known .modeChanged]) s).port = false ∧ alertHigh (after (.clearAlerts 1 [.known .modeChanged]) s).port = false ∧
      (after (.clearNotices 1 [.known .modeChanged]) s).port.noticeEnable = Vector.replicate 8 false ∧
      lastReply (after (.setNotices 1 [.known .yieldLow, .unknown 9]) s) = some (.badArgument, .none) := by
  decide +kernel

/-- R23, R155, R182, R201: the reading commands. -/
theorem test_reads :
    (match lastReply (after (.readStatus 1) running) with
      | some (.ok, .status r) => r.mode == .run && r.freePairs == 96 && r.freeRecords == 12 && r.gateOpen && r.engineer
      | _ => false) = true ∧
      (match lastReply (after (.readNest 1 0) running) with
      | some (.ok, .nest r) => r.state == .loaded && r.present && r.unit.isNone
      | _ => false) = true ∧
      (match lastReply (after (.readLot 1) running) with
      | some (.ok, .lot r) => r.isOpen && r.nextSerial == 412133
      | _ => false) = true ∧
      (match lastReply (after (.readFaults 1) (settle (declareLoss running))) with
      | some (.ok, .faults r) => r.count == 1 && r.history.length == 1 && !r.following.syncOk
      | _ => false) = true := by
  decide +kernel

/-- R194: an unknown type; and a message that finds no reply slot waits in the Command Buffer, the fifth is discarded. -/
theorem test_service :
    let blocked := idle.setPort { idle.port with results := List.replicate 48 (.notice (.reportsDropped 1)) }
    let four := afterAll (List.replicate 4 (.readLot 1)) blocked
    lastReply (after (.unknownCommand 1 200) idle) = some (.unknownCommand, .none) ∧ four.port.buffer.length = 4 ∧
      (after (.readLot 1) four).port.buffer.length = 4 ∧ (after (.readLot 1) four).port.discarded = 1 := by
  decide +kernel

/-- Chapter 11, worked example: a queue under HOLD_OFF, its last row: the drops are reported once a non-reply slot is free. -/
theorem test_drops :
    let s := running.setPort { running.port with
      results := List.replicate 43 (.notice (.reportsDropped 1)), unreported := 2, dropped := 2
      noticeEnable := Vector.replicate 8 true }
    let t := after .reportsDropped s
    t.port.unreported = 0 ∧ t.port.results.length = 44 ∧ t.port.results.getLast? = some (.notice (.reportsDropped 2)) ∧ t.port.dropped = 2 := by
  decide +kernel

/-- R194: the waiting reply takes the first free reply slot. -/
theorem test_waiting_reply :
    let s := running.setPort { running.port with waiting := some ⟨9, .ok, .none⟩ }
    (after .waitingReply s).port.waiting = none ∧ lastReply (after .waitingReply s) = some (.ok, .none) := by
  decide +kernel

/-! ## Witnesses of the hypotheses of the statements -/

/-- `StepRunsFrontCommand`, `EventEndsInItsEffect`, `ConsequencesLeaveTheOuterBlocks`: an empty queue, a state between events with nothing
due, and a state with a consequence to take. -/
theorem witness_events :
    idle.pending = [] ∧ nextInternal idle = none ∧ NothingDue idle ∧ (nextInternal (inMode .holding running)).isSome = true ∧
      running.port.buffer = [] := by
  decide +kernel

/-- A part in RUN that tests a unit on nest 1 with its window open, keeps two of its records in Guard Hold, and has a command waiting. -/
def busy : State :=
  let s := (ending.modNest 1 fun x => { x with count := 50 }).modRecord 1 fun r => { r with pending := 2 }
  let t := s.setStore { s.store with free := 10, guardHold := [windowAt 40, windowAt 45] }
  t.setPending [.abortUnit 7 1, .readLot 8]

/-- The step at `busy` answers a next state. -/
theorem busy_steps : step busy = .next (settle (arrive ⟨7, .command (.abortUnit 1)⟩ (busy.setPending [.readLot 8]))) := rfl

/-- The hypotheses of every `StepKeeps` statement, together. -/
theorem witness_invariants :
    StoreConserved busy ∧ HoldAscending busy ∧ RecordsHeld busy ∧ OutputsSorted busy ∧ PairsConserved busy ∧ QueuesBounded busy ∧
      RunningValidated busy ∧ QuietAlone busy ∧ PassesCounted busy := by
  decide +kernel

/-- Nest 0 holds quiet in CLOSE_WAIT, nest 1 waits for quiet, and nest 2 runs a loud step past the gate. -/
def placed : State :=
  let x := (testing .closeWait stepQ).nest 1
  let s := ((testing .gateWait stepQ).setNest 0 x).setNest 2 ((testing .measure stepL).nest 1)
  (s.setArbiter { s.arbiter with queue := [1], holder := some 0, loudPast := #v[false, false, true, false] }).setStore
    { s.store with free := 0, closeWait := [0] }

/-- The hypothesis of the statements that use the places, with a nest in each of the Quiet Request Queue, the quiet holder, the loud-past set
and the close-wait list. -/
theorem witness_places : PlacesFollowPhase placed where
  noPhase := by decide +kernel
  pairs := by decide +kernel
  quiet n h := by
    have e : n = 1 := by simpa [placed, State.setArbiter, State.setStore] using h
    subst e
    exact ⟨by decide +kernel, stepQ, by decide +kernel, by decide +kernel⟩
  loud n h := absurd h (by revert n; decide +kernel)
  holder n h := by
    have e : n = 0 := by simpa [placed, State.setArbiter, State.setStore, eq_comm] using h
    subst e
    exact ⟨by decide +kernel, by decide +kernel, stepQ, by decide +kernel, by decide +kernel⟩
  loudPast n h := by
    have e : n = 2 := by revert n; decide +kernel
    subst e
    exact ⟨by decide +kernel, by decide +kernel, stepL, by decide +kernel, by decide +kernel⟩
  alloc e h := absurd h (List.not_mem_nil)
  close := by decide +kernel
  quietOnce := by decide +kernel
  allocOnce := by decide +kernel
  closeOnce := by decide +kernel

/-- The hypotheses of `StepKeepsSortingOutputs` and `StepKeepsPairs`, together. -/
theorem witness_places_busy : PlacesFollowPhase busy where
  noPhase := by decide +kernel
  pairs := by decide +kernel
  quiet n h := absurd h (List.not_mem_nil)
  loud n h := absurd h (by revert n; decide +kernel)
  holder n h := absurd h (by revert n; decide +kernel)
  loudPast n h := absurd h (by revert n; decide +kernel)
  alloc e h := absurd h (List.not_mem_nil)
  close n h := absurd h (List.not_mem_nil)
  quietOnce := by decide +kernel
  allocOnce := by decide +kernel
  closeOnce := by decide +kernel

/-- The part with the edge of an input to `level` due, after exactly the debounce time. -/
def due (i : Input) (level : Bool) (s : State) : State := s.setInputs (s.inputs.set i ⟨level, !level, some 960⟩)

/-- An edge is due in that state. -/
theorem edgeDue (i : Input) (level : Bool) (s : State) (h : ms s.tables.config.debounce ≤ 960) : EdgeDue i level (due i level s) := by
  refine ⟨960, ?_, h⟩
  cases i <;> simp [due, State.setInputs, Inputs.get, Inputs.set]

/-- `InputHoldsAndEdges`: a hold one frame period short of the debounce time, and every edge it speaks of. -/
theorem witness_inputs :
    (∀ t, ((idle.setInputs (idle.inputs.set (.clamp 0) ⟨false, true, some 959⟩)).inputs.get (.clamp 0)).hold = some t →
      t < idle.tables.config.debounce * 96) ∧
      EdgeDue .engEnable false (due .engEnable false idle) ∧ EdgeDue .markerReady true (due .markerReady true idle) ∧
      EdgeDue .alertClr false (due .alertClr false idle) ∧ EdgeDue .alertClr true (due .alertClr true idle) := by
  refine ⟨fun t h => ?_, edgeDue _ _ _ (by decide +kernel), edgeDue _ _ _ (by decide +kernel), edgeDue _ _ _ (by decide +kernel),
    edgeDue _ _ _ (by decide +kernel)⟩
  have e : t = 959 := by simpa [State.setInputs, Inputs.get, Inputs.set, eq_comm] using h
  subst e; decide +kernel

/-- The running part with autostart on nest 2, and nest 2 present but not clamped. -/
def auto : State :=
  let s := running.setTables { tables with config := { tables.config with autostart := #v[false, false, true, false] } }
  s.setInputs (s.inputs.set (.present 2) (.settled true))

/-- `FixtureEvents`, the rising edges: one that makes a nest present and clamped, with and without autostart, and one that does not. -/
theorem witness_rising :
    EdgeDue (.clamp 2) true (due (.clamp 2) true auto) ∧ EdgeDue (.clamp 3) true (due (.clamp 3) true auto) ∧
      presentAndClamped ((due (.clamp 2) true auto).withEdge (.clamp 2) true) 2 = true ∧ ((due (.clamp 2) true auto).nest 2).state = .empty ∧
      AutostartHolds (due (.clamp 2) true auto) 2 ∧ ¬AutostartHolds (due (.clamp 2) true (auto.setTables tables)) 2 ∧
      presentAndClamped ((due (.clamp 3) true auto).withEdge (.clamp 3) true) 3 = false := by
  refine ⟨edgeDue _ _ _ (by decide +kernel), edgeDue _ _ _ (by decide +kernel), ?_⟩
  decide +kernel

/-- `FixtureEvents`, the falls: an edge is due in each nest state it names. -/
theorem witness_falls :
    (∀ s ∈ [running, testing .settle stepA, finishing unit, disposing unit, running.modNest 1 fun x => { x with state := .disposed }],
      EdgeDue (.present 1) false (due (.present 1) false s) ∧ EdgeDue (.clamp 1) false (due (.clamp 1) false s)) ∧
      (running.nest 0).state = .loaded ∧ (running.nest 3).state = .empty ∧ ((testing .settle stepA).nest 1).state = .testing ∧
      ((finishing unit).nest 1).state = .finishing ∧ ((disposing unit).nest 1).state = .disposing ∧ presentAndClamped running 0 = true ∧
      presentAndClamped running 1 = false ∧ ¬AutostartHolds running 0 ∧ AutostartHolds auto 2 := by
  refine ⟨fun s h => ⟨edgeDue _ _ _ ?_, edgeDue _ _ _ ?_⟩, by decide +kernel⟩ <;>
    (revert s; decide +kernel)

/-- `UnitCommands`, `LotCommands`, `RunCommands`, `TableCommands`, `PortCommands`: the part serves, between events, and each clause's state
and fields are met. -/
theorem witness_commands :
    Serving running ∧ Serving idle ∧ Quiescent running ∧ (planAt tables 2).entries ≠ [] ∧ (planAt tables 0).entries = [] ∧
      ([48, 48, 48, 57, 57, 57, 57, 56] : Text).length = 8 ∧ ([48, 48, 48, 57, 57, 57, 57, 56] : Text).all isDigit = true ∧
      (running.nest 0).state = .loaded ∧ ((testing .settle stepA).nest 1).state = .testing ∧ Serving (testing .settle stepA) ∧
      (∀ n : NestId, (running.nest n).state = .empty ∨ (running.nest n).state = .loaded ∨ (running.nest n).state = .disposed) := by
  decide +kernel

/-- `AbortReleasesEveryClaim`: a unit that holds a pair and two records. -/
theorem witness_abort : (busy.nest 1).state = .testing ∧ ((finishing unit).nest 1).state = .finishing := by decide +kernel

/-- `FinishingMoves`: a nest with a key to retry, and one to be graded by the first rule that holds. -/
theorem witness_finishing :
    let r := { unit with retryList := [⟨0, 1⟩] }
    ((finishing r).nest 1).state = .finishing ∧ ((finishing r).nest 1).record = some r ∧ r.pending = 0 ∧ r.retryList = [⟨0, 1⟩] ∧
      ((finishing unit).nest 1).state = .finishing ∧ ((finishing unit).nest 1).record = some unit ∧ unit.pending = 0 ∧ unit.retryList = [] ∧
      ((finishing unit).tables.grades.toList.filterMap id).find? (fun g => g.conditions.all (Condition.holds unit 1)) =
        some ⟨[], 0, [80], 0, some 2⟩ := by
  decide +kernel

/-- `Disposals`: a graded unit that needs a label place, and an aborted one, at the last free slot and the last free place. -/
theorem witness_disposals :
    let r := { unit with disposition := some passed }
    let a := { unit with abort := some .commanded }
    let last (s : State) := (s.setPort { s.port with results := List.replicate 43 (.notice (.reportsDropped 1)) }).setMarker
      { s.marker with labels := List.replicate 31 (label 7) }
    let s := last (disposing r)
    let t := last (disposing a)
    (s.nest 1).state = .disposing ∧ (s.nest 1).record = some r ∧ r.pending = 0 ∧ r.disposition = some passed ∧ s.port.reserved = false ∧
      s.port.results.length < 44 ∧ passed.template.isSome = true ∧ s.marker.labels.length < 32 ∧
      (t.nest 1).state = .disposing ∧ (t.nest 1).record = some a ∧ a.pending = 0 ∧ a.disposition = none ∧ a.abort.isSome = true ∧
      t.port.reserved = false ∧ t.port.results.length < 44 := by
  decide +kernel

/-- Nest 1 waits for a label place that a full Label Queue does not have, and nest 2, which entered DISPOSING after it, needs none. -/
def passing : State :=
  let s := disposing { unit with disposition := some passed }
  let t := s.setNest 2 { s.nest 1 with record := some { unit with abort := some .commanded } }
  (t.setMarker { t.marker with labels := List.replicate 32 (label 7) }).setDisposing [1, 2]

/-- `Disposals`: a nest that waits, and behind it one that does not. -/
theorem witness_passing :
    (passing.nest 1).record = some { unit with disposition := some passed } ∧ passed.template.isSome = true ∧
      32 ≤ passing.marker.labels.length ∧ (passing.nest 2).state = .disposing ∧
      (passing.nest 2).record = some { unit with abort := some .commanded } ∧ unit.pending = 0 ∧ unit.disposition = none ∧
      passing.port.results.length + passing.port.reserved.toNat < 44 ∧ passing.disposing = [1, 2] := by
  decide +kernel

/-- R161, R162: the nest that waits is passed over, and its rows change nothing; the next one is disposed of. -/
theorem test_reservation_order :
    (reserveNext passing).any (fun u => decide (u.disposing = [1] ∧ (u.nest 2).state = .disposed ∧ (u.nest 1).state = .disposing)) = true ∧
      after (.disposal 1) passing = passing ∧ reserveNext (passing.setDisposing [1]) = none := by
  decide +kernel

/-- `DisposalStalls`: a stay of exactly the stall limit, with each of the two queues full, with both, and with neither, under both class
actions and in a part that runs or stands by; an expiry already taken, and a stay one frame period short of the limit. -/
theorem witness_stalls :
    let r := { unit with disposition := some passed }
    let s := (disposing r).modNest 1 fun x => { x with stall := some ⟨960000, false⟩ }
    let labels (s : State) := s.setMarker { s.marker with labels := List.replicate 32 (label 7) }
    (s.nest 1).state = .disposing ∧ (s.nest 1).record = some r ∧ (s.nest 1).stall = some ⟨960000, false⟩ ∧
      s.tables.config.stallLimit * 1000 * 96 ≤ 960000 ∧ s.port.reserved = false ∧ 44 ≤ (full s).port.results.length ∧
      (full s).marker.labels.length < 32 ∧ (r.disposition, passed.template, unit.disposition) = (some passed, some 2, none) ∧
      (labels s).port.results.length < 44 ∧ 32 ≤ (labels s).marker.labels.length ∧ 44 ≤ (full (labels s)).port.results.length ∧
      actionOf s.tables.config.actionStall = .stop ∧ s.run.mode = .run ∧ (inMode .standby s).run.mode = .standby ∧
      actionOf .continue_ = .continue_ ∧ (((disposing r).modNest 1 fun x => { x with stall := some ⟨960000, true⟩ }).nest 1).stall =
        some ⟨960000, true⟩ ∧ ((disposing r).nest 1).stall = some ⟨0, false⟩ ∧ 959999 < s.tables.config.stallLimit * 1000 * 96 := by
  decide +kernel

/-- `LabelsAndReports`: values at the ends of their ranges; a figure with a value behind one without, and a kind without a finding; a
graded and an aborted unit. -/
theorem witness_labels :
    let f (k : FindingKind) (v : Option Int) : Finding := ⟨0, 0, 240, k, .pass, v, none, none⟩
    let fs := [f .response (some (-1500)), f .thd none, f .thd (some 5), f .impedance (some 65535)]
    99999999 ≤ 99999999 ∧ passed.bin ≤ 7 ∧ running.lot.counts.graded.value ≤ 16777215 ∧
      (∀ x ∈ fs, x.kind ≠ figureKind .crest) ∧ fs = [] ++ f .response (some (-1500)) :: fs.drop 1 ∧
      fs = [f .response (some (-1500))] ++ f .thd none :: fs.drop 2 ∧ (∀ y ∈ fs.take 1, y.kind ≠ figureKind .thd) ∧
      fs = fs.take 3 ++ [f .impedance (some 65535)] ∧ (∀ y ∈ fs.take 3, y.kind ≠ figureKind .impedance) ∧
      (f .thd none).kind = figureKind .thd ∧ ({ unit with disposition := some passed }).disposition = some passed ∧
      unit.disposition = none := by
  decide +kernel

/-- `StepStart`, `PlanWalk`: a defined segment; positions in the middle and at the end of a segment, before the REPEAT
and at the end of the plan, and of a retry; each kind of entry, with no context, with one that goes back and with one that ends; and a
block of two entries with an outer context of another entry. -/
theorem witness_walk :
    let at_ (e j : Nat) := finishing { unit with position := .at_ e j }
    (tables.segments[0]?).join = some segA ∧ (tables.segments[1]?).join = some segQ ∧ (tables.segments[2]?).join = some segL ∧
      ((at_ 0 0).nest 1).record = some { unit with position := .at_ 0 0 } ∧
      (planAt tables unit.plan).entries[0]? = some (.segment 0) ∧ 0 + 1 < segA.stepCount ∧ segA.stepCount ≤ 1 + 1 ∧
      takeEntry (planAt tables 2).entries walkFuel [] 1 = (.at_ 1 0, []) ∧ (planAt tables 2).entries[1]? = some (.segment 1) ∧
      segQ.stepCount ≤ 0 + 1 ∧ takeEntry (planAt tables 2).entries walkFuel [] 2 = (.at_ 1 0, [⟨2, 1⟩]) ∧
      (planAt tables 2).entries[3]? = some (.segment 2) ∧ takeEntry (planAt tables 2).entries walkFuel [] 4 = (.end_, []) ∧
      ({ unit with position := .retry 0 1 }).position = .retry 0 1 ∧
      (planAt tables 2).entries[4]? = none ∧ (planAt tables 2).entries[2]? = some (.again 1 1) ∧
      (∀ c ∈ [(⟨9, 1⟩ : RepeatContext)], c.entry ≠ 2) ∧ ([⟨9, 1⟩, ⟨2, 2⟩] : List RepeatContext) = [⟨9, 1⟩] ++ ⟨2, 2⟩ :: [] ∧
      (∀ c ∈ [(⟨9, 1⟩ : RepeatContext)] ++ [], c.entry ≠ 2) ∧ (2 : Nat) ≤ 2 ∧ (1 : Nat) ≤ 1 ∧
      (∀ c ∈ [(⟨9, 1⟩ : RepeatContext)], c.entry ≠ [PlanEntry.segment 0].length + [PlanEntry.segment 1, .segment 2].length) ∧
      ([PlanEntry.segment 4].head? = some (.segment 4)) := by
  decide +kernel

/-- `SettleEndAndWindowOpen`: SETTLE at its last frame, of a step with and without a judge set; OPEN_WAIT after a wrap frame. -/
theorem witness_settle :
    let s (st : Step) := (testing .settle st).modNest 1 fun x => { x with count := 20 }
    let o := (testing .openWait stepQ).modNest 1 fun x => { x with synth := { x.synth with wrapped := true } }
    ((s stepA).nest 1).phase = some .settle ∧ ((s stepA).nest 1).step = some stepA ∧ stepA.settle ≤ ((s stepA).nest 1).count ∧
      stepA.judge ≠ ⟨none, none, none, none, none⟩ ∧ ((s stepL).nest 1).step = some stepL ∧ stepL.settle ≤ ((s stepL).nest 1).count ∧
      stepL.judge = ⟨none, none, none, none, none⟩ ∧ (o.nest 1).phase = some .openWait ∧ (o.nest 1).step = some stepQ ∧
      (o.nest 1).synth.wrapped = true := by
  decide +kernel

/-- `ToneFrame`, `WindowFrame`: each phase, a nest outside TESTING, and a window open and ended. -/
theorem witness_tone :
    ((testing .gateWait stepA).nest 1).state = .testing ∧ ((testing .gateWait stepA).nest 1).phase = some .gateWait ∧
      ((testing .settle stepA).nest 1).phase = some .settle ∧ ((testing .settle stepA).nest 1).count < stepA.ramp ∧
      ((testing .settle stepA).nest 1).step = some stepA ∧ stepL.ramp ≤ 5 ∧ (running.nest 1).state ≠ .testing ∧
      windowIsOpen (busy.nest 1) = true ∧ windowIsOpen (ending.nest 1) = false := by
  decide +kernel

/-- `PairGrants`: a head whose request just fits, and one that exceeds the free count. -/
theorem witness_pairs :
    let s (free : Nat) := (testing .allocWait stepA).setBank ⟨free, [(1, 1)]⟩
    (s 1).bank.queue = [(1, 1)] ∧ ((s 1).nest 1).step = some stepA ∧ 1 ≤ (s 1).bank.free ∧ (s 0).bank.free < 1 := by
  decide +kernel

/-- `StepEnds`: the last frame of a window, plain and trimmed, a nest in the close-wait list with a record free, and the last frame of a
step without a judge set; records on both sides of a new one. -/
theorem witness_step_ends :
    let q := (testing .measure stepQ).modNest 1 fun x => { x with count := 97, synth := { x.synth with wrapped := true } }
    let c := (ending.modNest 1 fun x => { x with phase := some .closeWait }).setStore { ending.store with closeWait := [1] }
    let e := (testing .measure stepL).modNest 1 fun x => { x with count := 96 }
    (ending.nest 1).phase = some .measure ∧ (ending.nest 1).step = some stepA ∧ (ending.nest 1).record = some unit ∧
      stepA.judge ≠ ⟨none, none, none, none, none⟩ ∧ stepA.measure ≤ (ending.nest 1).count ∧ stepA.trim = false ∧
      (q.nest 1).phase = some .measure ∧ (q.nest 1).step = some stepQ ∧ stepQ.measure ≤ (q.nest 1).count ∧ stepQ.trim = true ∧
      (q.nest 1).synth.wrapped = true ∧ c.store.closeWait = [1] ∧ 0 < c.store.free ∧
      (e.nest 1).phase = some .measure ∧ (e.nest 1).step = some stepL ∧ stepL.judge = ⟨none, none, none, none, none⟩ ∧
      stepL.measure ≤ (e.nest 1).count ∧ (∀ v ∈ [windowAt 40], v.lastFrame ≤ 95) ∧ ∀ v ∈ [windowAt 96], 95 < v.lastFrame := by
  decide +kernel

/-- `QuietArbiterDecisions`, `PermitArrives`, `PermitPassesAndOutCycle`, `PermitTimesOut`. -/
theorem witness_permit :
    let s := (waiting false).setPermit { (waiting false).permit with waitTimer := some ⟨192000, false⟩ }
    let first := s.setTables { s.tables with config := { s.tables.config with role := .first, actionTimeout := .continue_ } }
    let latched := s.setPermit { s.permit with latch := true, due := true }
    let h := (waiting true).setPermit { (waiting true).permit with holdTimer := some ⟨9600, false⟩ }
    (running.permit.latch && running.permit.due) = false ∧ latched.permit.latch = true ∧ latched.permit.due = true ∧
      role running = .solo ∧ role s = .member ∧ role first = .first ∧ actionOf first.tables.config.actionTimeout = .continue_ ∧
      actionOf s.tables.config.actionTimeout = .stop ∧ s.arbiter.queue = [1] ∧ s.permit.held = false ∧
      s.tables.config.waitLimit * 96 ≤ 192000 ∧ (s.nest 1).record = some unit ∧ (s.nest 1).step = some stepQ ∧
      h.permit.held = true ∧ h.permit.holdTimer = some ⟨9600, false⟩ ∧ h.tables.config.holdLimit * 96 ≤ 9600 ∧ h.arbiter.holder = none ∧
      (waiting true).arbiter.queue = [1] ∧
      ((testing .gateWait stepL).setArbiter { running.arbiter with loudWait := #v[false, true, false, false] }).arbiter.loudWait[(1 : NestId)] = true := by
  decide +kernel

/-- `PermitTimesOut`: a queue of two nests, each with a Unit Record, one of them with a retry step and a key; and `witness_places` has a queue
and its places. -/
theorem witness_withdrawal :
    let r := { unit with retryList := [⟨1, 0⟩], position := .retry 1 0 }
    let s := (waiting false).setNest 2 { (waiting false).nest 1 with record := some r }
    let q := s.setArbiter { s.arbiter with queue := [2, 1] }
    q.arbiter.queue = [2, 1] ∧ (∀ n ∈ q.arbiter.queue, (q.nest n).record.isSome = true) ∧ placed.arbiter.queue = [1] := by
  decide +kernel

/-- `PermitTimesOut`: the wait timer is to start, to run on, to stop, and to stay stopped. -/
theorem witness_wait_timer :
    let s := waiting false
    let fresh := s.setPermit { s.permit with waitTimer := none }
    let late := running.setPermit { running.permit with waitTimer := some ⟨5, false⟩ }
    role s = .member ∧ s.run.mode = .run ∧ s.arbiter.queue = [1] ∧ s.permit.held = false ∧ fresh.permit.waitTimer = none ∧
      s.permit.waitTimer ≠ none ∧ late.permit.waitTimer ≠ none ∧ late.arbiter.queue = [] ∧ running.permit.waitTimer = none ∧
      (waitTimerChange fresh).map (·.permit.waitTimer) = some (some ⟨0, false⟩) ∧ Quiescent idle := by
  decide +kernel

/-- `GuardFrame`, `StreamAdvance`, `GuardBlockEnds`: the cases of the mode and of the counter, with D = 2. -/
theorem witness_guard :
    idle.run.mode = .standby ∧ running.run.mode = .run ∧ blockEnd.guard.due = some 3 ∧ (1 : Nat) ≤ 2 ∧
      (⟨1, false, some 7⟩ : Stream).declared = false ∧ (⟨1, false, some 7⟩ : Stream).run + 1 = 2 ∧ (⟨1, false, some 7⟩ : Stream).run + 1 < 3 ∧
      Stream.zero.run = 0 ∧ (⟨2, true, some 7⟩ : Stream).declared = true := by
  decide +kernel

/-- `FigureValues`: the fundamental and the current of the worked case, above a floor and below another; a window of silence has amplitude 0. -/
theorem witness_figures :
    0 < fullStep.mEff ∧ (fullStep.sums.find? fun p => decide (p.channel = .mic) && decide (p.h = 1)) = some ⟨.mic, 1, 131937400257600, 0⟩ ∧
      (fullStep.sums.find? fun p => decide (p.channel = .cur) && decide (p.h = 1)) = some ⟨.cur, 1, 1048576 * 157281600, 0⟩ ∧
      -900 ≤ amplitudeLevel ⟨.cur, 1, 1048576 * 157281600, 0⟩ 9600 ∧ amplitudeLevel ⟨.cur, 1, 1048576 * 157281600, 0⟩ 9600 < -100 ∧
      0 < fullStep.peak := by
  decide +kernel

/-- `FigureValues`: the amplitude of a pair with a sum is above 0. -/
theorem witness_amplitude : (0 : ℝ) < 2 * Real.sqrt (((5 : Int) : ℝ) ^ 2 + ((0 : Int) : ℝ) ^ 2) / (32767 * ((96 : Nat) : ℝ)) := by positivity

/-- `LimitInterpolation`, `LimitComparison`: rising breakpoints with codes at, between and beyond them, and values on each side. -/
theorem witness_limits :
    (([(240, some (-450)), (288, some (-550))] : List (Int × Option Int)).map (·.1)).Pairwise (· < ·) ∧ (240 : Int) ≤ 240 ∧ (240 : Int) < 271 ∧
      (271 : Int) < 288 ∧ (288 : Int) ≤ 300 ∧ (30 : Int) < 35 ∧ (-30 : Int) ≤ 30 ∧ (-31 : Int) < -30 := by
  decide +kernel

/-- `FindingsOfRecord`, `FigureUnitRuns`: the taints, a record to take, and a record in computation of a unit that is tested or aborted. -/
theorem witness_figure_unit :
    let s := (testing .settle stepA).setStore { Store.atReset with free := 10, judgeQueue := [windowAt 95] }
    let c := s.setStore { s.store with computing := some ⟨windowAt 40, 0⟩ }
    (windowAt 95).taint = .none ∧ fundamentalOf (windowAt 95) .mic = ⟨.mic, 1, 0, 0⟩ ∧ ({ windowAt 95 with taint := .ambient }).taint = .ambient ∧
      ({ windowAt 95 with taint := .overload }).taint = .overload ∧ s.store.computing = none ∧ s.store.judgeQueue = [windowAt 95] ∧
      c.store.computing = some ⟨windowAt 40, 0⟩ ∧ (c.nest 1).record = some unit ∧ unit.abort = none ∧
      ({ unit with abort := some .removed }).abort.isSome = true ∧ ((c.setNest 1 (Nest.atReset false)).nest 1).record = none := by
  decide +kernel

/-- `FigureUnitRuns`, `RunCommands`: the bounds of a computation and of a validation, on both sides. -/
theorem witness_bounds :
    let c (k : Nat) := running.setStore { running.store with computing := some ⟨windowAt 40, k⟩ }
    let v (k : Nat) := idle.setRun { idle.run with validation := some ⟨9, k⟩ }
    (computationOverdue (c 47)).isNone = true ∧ (computationOverdue (c 48)).isSome = true ∧
      (validationOverdue (v 4799)).isNone = true ∧ (validationOverdue (v 4800)).isSome = true ∧
      (∀ x ∈ (c 48).store.computing, x.frames ≤ 48) ∧ ∀ x ∈ (v 4800).run.validation, x.elapsed ≤ 4800 := by
  decide +kernel

/-- `FindingsStayConsistent`: a Unit Record with one stored and one overflowed finding. -/
theorem witness_findings : (({ unit with findings := [] }.enter ⟨0, 0, 240, .thd, .high, some 5, some 4, none⟩).enter
    ⟨0, 0, 240, .thd, .low, some 5, some 9, none⟩).Consistent := by
  refine ⟨fun k o => ?_, by decide +kernel, by decide +kernel, by decide +kernel⟩
  cases k <;> cases o <;> decide +kernel

/-- `FindingsStayConsistent`: that record overflows into a row that exists and, with another step, into a new one; a key admitted at the
last place of its budget, and one that is not. -/
theorem witness_overflow :
    let f (j : Nat) (o : FindingOutcome) : Finding := ⟨0, j, 240, .thd, o, some 5, some 4, none⟩
    let r := (unit.enter (f 0 .high)).enter (f 0 .low)
    (unit.findings.length < 16 ∧ unit.findings = []) ∧ ¬(∀ g ∈ r.findings, ¬(g.segment = 0 ∧ g.step = 0 ∧ g.kind = .thd)) ∧
      (∃ x : OverflowRow, r.rows = [] ++ x :: [] ∧ x.segment = 0 ∧ x.step = 0) ∧ unit.rows = [] ∧
      (∀ y ∈ r.rows, ¬(y.segment = 0 ∧ y.step = 1)) ∧ (unit.admitsKey 1 ⟨0, 1⟩, unit.admitsKey 0 ⟨0, 1⟩) = (true, false) := by
  refine ⟨by decide +kernel, by decide +kernel, ⟨⟨0, 0, Tally.zero.bump .thd .low⟩, by decide +kernel⟩, by decide +kernel, by decide +kernel,
    by decide +kernel⟩

/-- `CountsSaturate`. -/
theorem witness_counts : (⟨16777214, false⟩ : Count).value < 16777215 ∧ (⟨16777215, false⟩ : Count).value = 16777215 := by decide +kernel

/-- `MarkerLine`: a head with a free line; a head whose reply is awaited, after no and after one failure, past the reply timeout, under both
class actions and in a stopped part. -/
theorem witness_marker :
    let s := marking [label 7, label 8] .idle 0
    let w := marking [label 7, label 8] .awaiting 1
    s.marker.labels = [label 7, label 8] ∧ s.marker.send = .idle ∧ s.inputs.markerReady.debounced = true ∧ s.run.mode ≠ .stopped ∧
      s.marker.hold = false ∧ (marking [label 7] .sending 0).marker.send = .sending ∧ w.marker.send = .awaiting ∧ w.marker.retry = 1 ∧
      960 * w.marker.replyLimit ≤ 48000 ∧ w.marker.replyTimer = some ⟨48000, false⟩ ∧ (marking [label 7] .awaiting 0).marker.retry = 0 ∧
      actionOf w.tables.config.actionMarker = .stop ∧ actionOf .continue_ = .continue_ ∧ (inMode .stopped w).run.mode = .stopped ∧
      receivedByte (lineForm 7) = some 7 ∧ (7 : Byte) ≠ 6 ∧ (7 : Byte) ≠ 21 ∧ receivedByte [.start, .data true] = none := by
  decide +kernel

/-- `FaultsAreRecorded`, `RunCommands`, `ClearFaultAndResetPart`, `FrameEvents`: nothing due in and out of sync, a validation in flight that
passes and one that fails, and the modes and levels named. -/
theorem witness_run :
    let lost := idle.setConv { idle.conv with inSync := false }
    let v := idle.setRun { idle.run with validation := some ⟨11, 0⟩ }
    NothingDue running ∧ running.conv.inSync = true ∧ NothingDue lost ∧ lost.conv.inSync = false ∧ running.run.count ≤ 4294967295 ∧
      v.run.validation = some ⟨11, 0⟩ ∧ v.port.results.length < 48 ∧
      48 ≤ (v.setPort { v.port with results := List.replicate 48 (.notice (.reportsDropped 1)) }).port.results.length ∧ validate v.tables = none ∧ validate Tables.powerOn = some ⟨401, 0⟩ ∧
      running.run.mark = true ∧ idle.run.mark = false ∧ idle.inputs.engEnable.debounced = true ∧
      (idle.setInputs { idle.inputs with engEnable := .settled false }).inputs.engEnable.debounced = false ∧
      Serving (inMode .stopped running) ∧ Serving (inMode .holding running) ∧ Serving (inMode .held running) := by
  decide +kernel

/-- `ValidationChecks`: a GRADE table with no rule, and one whose rule of highest index is the last of two. -/
theorem witness_validation :
    (∀ i : Fin 16, Tables.powerOn.grades[i] = none) ∧ tables.grades[(5 : Fin 16)] ≠ none ∧
      ∀ i : Fin 16, 5 < i → tables.grades[i] = none := by
  decide +kernel

/-- `TableCommands`: writes that fit and writes that do not. -/
theorem witness_tables :
    (storeEntry tables (.segment 127 (some segA))).isSome = true ∧ storeEntry tables (.segment 128 (some segA)) = none ∧
      (storeEntry tables (.configuration 0 (some Configuration.default))).isSome = true ∧
      LabelFieldArg.unknown 9 ∈ [LabelFieldArg.known .serial, .unknown 9] := by
  decide +kernel

/-- `CommandService`: rows with messages; a port that does not serve, with room in the Command Buffer and without; a command that waits; a
waiting reply; and drops to report. -/
theorem witness_service :
    let blocked := idle.setPort { idle.port with results := List.replicate 48 (.notice (.reportsDropped 1)) }
    let four := afterAll (List.replicate 4 (.readLot 1)) blocked
    messageOf (.readLot 1) = some ⟨1, .command .readLot⟩ ∧ ¬Serving blocked ∧ blocked.port.buffer.length < 4 ∧ ¬Serving four ∧
      4 ≤ four.port.buffer.length ∧ four.port.discarded ≤ 4294967295 ∧ four.port.buffer ≠ [] ∧ four.port.waiting = none ∧
      idle.port.results.length < 44 ∧ idle.port.reserved = false ∧ idle.port.dropped ≤ 4294967295 := by
  decide +kernel

/-- R194: a type that is no command, and payloads that fit and do not fit a command without fields. -/
theorem test_request :
    (requestOf 0 [], requestOf 22 [], requestOf 3 [], requestOf 3 [1], requestOf 21 []) =
      (.unknown, .unknown, .command .startRun, .malformed, .command .readFaults) ∧ Serving idle := by
  decide +kernel

/-- `CommandService`: a queue at 43 messages takes a STEP_REPORT; one of 44 that holds a STEP_REPORT behind another message, and one that
holds none. -/
theorem witness_step_reports :
    let x : StepReport := ⟨1, 7, false, 0, 0, 240, .neutral, 96, 95, .none, none, none, none, []⟩
    let n : Message := .notice (.reportsDropped 1)
    let p := { idle.port with results := [n] ++ Message.stepReport x :: List.replicate 42 n }
    (List.replicate 43 n).length + idle.port.reserved.toNat < 44 ∧ 44 ≤ p.results.length + p.reserved.toNat ∧
      (∀ y, Message.stepReport y ∉ [n]) ∧ 44 ≤ (full idle).port.results.length + idle.port.reserved.toNat ∧
      (∀ y, Message.stepReport y ∉ List.replicate 44 n) ∧ idle.port.unreported ≤ 4294967295 := by
  refine ⟨by decide +kernel, by decide +kernel, fun y h => ?_, by decide +kernel, fun y h => ?_, by decide +kernel⟩
  · simp at h
  · simpa using List.eq_of_mem_replicate h

/-- `PortCommands`: sets of kinds with and without an unknown one. -/
theorem witness_kinds :
    NoticeArg.unknown 9 ∈ [NoticeArg.known .yieldLow, .unknown 9] ∧ ∀ code, NoticeArg.unknown code ∉ [NoticeArg.known .yieldLow] := by
  simp

/-- `LaneBytes`: a payload of 500 bytes, an exact multiple, in two parts, one of 251, and an empty one. -/
theorem witness_parts :
    let part := List.replicate 250 (7 : Byte)
    (∀ p ∈ [part], p.length = 250) ∧ part.length ≤ 250 ∧ part ≠ [] ∧ ([7] : List Byte).length ≤ 250 ∧ ([7] : List Byte) ≠ [] ∧
      ([].flatten ++ [] : List Byte) = [] := by
  decide +kernel

/-- `LaneBytes`: a message in sending, a message to begin, a good frame and a bad one, and a message partly assembled at each of its bytes. -/
theorem witness_lanes :
    frameCheck [1, 0, 0, 0, 0] = 98 ∧ frameCheck [1, 0, 0, 0, 0] ≠ 97 ∧ (250 : Nat) < (251 : Byte).toNat ∧ (1 : Nat) ≤ (250 : Byte).toNat ∧
      (250 : Byte).toNat ≤ 250 ∧ ([] : List Byte).length + 1 < (2 : Byte).toNat ∧ ([65] : List Byte).length + 1 = (2 : Byte).toNat ∧
      idle.port.sending = [] ∧ idle.port.holdOff = false ∧ idle.port.assembly = [] ∧ (full idle).port.results ≠ [] := by
  decide +kernel

end Sys2Proof.Tests
end

section
/-! PROOFS. The handling of a command by a part that serves: how its reply joins the Result Queue (R194), START_UNIT and ABORT_UNIT
(R8, R18), and what an abort releases (R19 to R21). -/

namespace Sys2Proof.Machine

open Sys2Proof

variable {s u : State}

/-! ## Commands taken by a part that serves (R191, R194) -/

/-- A part that serves can take a command. -/
theorem canTake_of_serving (h : Serving s) : canTake s.port = true := by
  obtain ⟨_, hwaiting, hplace⟩ := h
  simp [canTake, hwaiting, replyAvailable_iff.mpr hplace]

/-- A part that serves takes an arriving message in the same event. -/
theorem arrive_serving (h : Serving s) (b : Buffered) : arrive b s = takeCommand b s := by
  simp [arrive, canTake_of_serving h, h.1]

/-- An answer stands at the tail of the Result Queue where a reply slot is available. -/
theorem reply_eq_withReply (tag : Byte) (code : ReplyCode) (data : ReplyData) (h : u.port.results.length < 48) :
    reply tag (u, some (code, data)) = u.withReply tag code data := by
  simp [reply, State.withReply, Port.answer, replyAvailable_iff.mpr h]

/-- A command handled without touching the Result Queue ends with its reply there. -/
theorem arrive_command {tag : Byte} {c : Command} {code : ReplyCode} {data : ReplyData} (h : Serving s)
    (handled : handleCommand tag c s = (u, some (code, data))) (queue : u.port.results = s.port.results) :
    arrive ⟨tag, .command c⟩ s = u.withReply tag code data := by
  rw [arrive_serving h, takeCommand, handleRequest, handled, reply_eq_withReply _ _ _ (queue ▸ h.2.2)]

/-- A refused command changes nothing but the Result Queue. -/
theorem arrive_refused {tag : Byte} {c : Command} {code : ReplyCode} (h : Serving s) (handled : handleCommand tag c s = refuse code s) :
    arrive ⟨tag, .command c⟩ s = s.withReply tag code .none :=
  arrive_command h handled rfl

/-- Rows whose effects are the same end alike. -/
theorem next_settle {v : State} (h : u = v) : (.next (settle u) : Result) = .next (settle v) := h ▸ rfl

/-- A field above 3 names no nest. -/
theorem nestOf_above {k : Nat} (h : 3 < k) : nestOf k = none := by
  simp [nestOf]; omega

/-- A nest's own number names it. -/
@[simp] theorem nestOf_val (n : NestId) : nestOf n.val = some n := by
  simp [nestOf]

/-! ## START_UNIT and ABORT_UNIT (R8, R18) -/

/-- A prior serial is malformed exactly where it is not eight decimal digits. -/
theorem priorOf_none {prior : Option Text} :
    priorOf prior = none ↔ ∃ t, prior = some t ∧ ¬(t.length = 8 ∧ t.all isDigit = true) := by
  cases prior <;> simp [priorOf, parseSerial]

/-- A well-formed prior serial is read as the value of its digits. -/
theorem priorOf_digits {prior : Option Text} (h : ∀ t, prior = some t → t.length = 8 ∧ t.all isDigit = true) :
    priorOf prior = some (prior.map digitsValue) := by
  cases prior with
  | none => rfl
  | some t => simp [priorOf, parseSerial, h t rfl]

/-- START_UNIT with an argument out of range is refused before every other check. -/
theorem handleStartUnit_badArgument {tag : Byte} {nest plan : Nat} {prior : Option Text}
    (h : 3 < nest ∨ 7 < plan ∨ (planAt s.tables plan).entries = [] ∨
      ∃ t, prior = some t ∧ ¬(t.length = 8 ∧ t.all isDigit = true)) :
    handleCommand tag (.startUnit nest plan prior) s = refuse .badArgument s := by
  change handleStartUnit nest plan prior s = _
  unfold handleStartUnit
  split
  · next n p hn hp =>
    have hnest : ¬3 < nest := fun h => by simp [nestOf_above h] at hn
    have hprior : ¬∃ t, prior = some t ∧ ¬(t.length = 8 ∧ t.all isDigit = true) := fun h => by simp [priorOf_none.mpr h] at hp
    have hplan : 7 < plan ∨ (planAt s.tables plan).entries = [] := (h.resolve_left hnest).imp_right (·.resolve_right hprior)
    rw [if_pos (by simpa using hplan)]
  · rfl

/-- The refusals of START_UNIT after its arguments, their conditions written out (R8). -/
theorem startRefusal_eq (n : NestId) (prior : Option Text) :
    startRefusal s n (prior.map digitsValue) =
      if s.run.mode ≠ .run then some .wrongMode
      else if (s.nest n).state ≠ .loaded ∧ ¬((s.nest n).state = .disposed ∧ presentAndClamped s n = true) then some .nestNotReady
      else if s.lot.alerts[n] = true then some .nestAlert
      else if s.lot.isOpen = false then some .noLot
      else if s.lot.exhausted = true ∧ prior = none then some .serialExhausted
      else none := by
  simp [startRefusal, imp_iff_not_or]

/-- START_UNIT with its arguments in range meets the other refusals, and starts the unit where there is none. -/
theorem arrive_startUnit {tag : Byte} {n : NestId} {plan : Nat} {prior : Option Text} (h : Serving s) (hplan : plan ≤ 7)
    (hentries : (planAt s.tables plan).entries ≠ []) (hprior : ∀ t, prior = some t → t.length = 8 ∧ t.all isDigit = true) :
    arrive ⟨tag, .command (.startUnit n.val plan prior)⟩ s =
      match startRefusal s n (prior.map digitsValue) with
      | some c => s.withReply tag c .none
      | none => (startUnit n plan (prior.map digitsValue) s).withReply tag .ok
          (.started ((prior.map digitsValue).getD s.lot.nextSerial) prior.isSome) := by
  have hargs : ¬(decide (7 < plan) || (planAt s.tables plan).entries.isEmpty) = true := by
    simp [hentries]; omega
  cases hr : startRefusal s n (prior.map digitsValue) with
  | some c => exact arrive_refused h (by simp [handleCommand, handleStartUnit, priorOf_digits hprior, hargs, hr])
  | none => exact arrive_command h (by simp [handleCommand, handleStartUnit, priorOf_digits hprior, hargs, hr]) (by simp)

/-- A nest is under test in TESTING and FINISHING. -/
theorem underTest_iff {x : NestState} : x.underTest = true ↔ x = .testing ∨ x = .finishing := by
  cases x <;> simp [NestState.underTest]

/-- ABORT_UNIT of a nest under test aborts its unit, and is refused for any other nest (R18). -/
theorem arrive_abortUnit {tag : Byte} (h : Serving s) (n : NestId) :
    arrive ⟨tag, .command (.abortUnit n.val)⟩ s =
      if (s.nest n).state = .testing ∨ (s.nest n).state = .finishing then (abortUnit n .commanded s).withReply tag .ok .none
      else s.withReply tag .nestNotReady .none := by
  split
  · next test => exact arrive_command h (by simp [handleCommand, handleAbortUnit, underTest_iff, test, accept]) (by simp)
  · next test => exact arrive_refused h (by simp [handleCommand, handleAbortUnit, underTest_iff, test])

/-- Settles O19: the checks of the two commands one after another, and the reply of each outcome in the Result Queue. -/
theorem unitCommands : Obligations.UnitCommands := by
  refine ⟨fun tag nest plan prior s hs => ⟨fun bad => ?_, ?_⟩, fun tag nest s hs => ⟨fun above => ?_, ?_⟩⟩
  · exact next_settle (arrive_refused hs (handleStartUnit_badArgument bad))
  · rintro n rfl hplan hentries hprior
    refine next_settle ((arrive_startUnit hs hplan hentries hprior).trans ?_)
    rw [startRefusal_eq]
    split_ifs <;> rfl
  · have refused : handleCommand tag (.abortUnit nest) s = refuse .badArgument s := by
      simp [handleCommand, handleAbortUnit, nestOf_above above]
    exact next_settle (arrive_refused hs refused)
  · rintro n rfl
    exact next_settle (arrive_abortUnit hs n)

/-! ## Abort (R19 to R21) -/

/-- The releases of R19: each block of the shared ones is released by itself, and the nest gives up its pairs. -/
theorem releaseClaims_eq (n : NestId) : releaseClaims n s =
    State.modNest { s with
      arbiter := s.arbiter.release n
      bank := { free := s.bank.free + (s.nest n).pairs.length, queue := s.bank.queue.filter fun e => !(e.1 == n) }
      store := { s.store with closeWait := s.store.closeWait.filter fun m => !(m == n) }
      guard := { s.guard with watch := s.guard.watch.filter fun e => !(e.nest == n) } } n fun x => { x with pairs := [] } := rfl

/-- The Window Store and a nest are replaced in either order. -/
theorem State.modNest_setStore (n : NestId) {f : Nest → Nest} {x : Store} :
    (s.modNest n f).setStore x = (s.setStore x).modNest n f := rfl

/-- Settles O20: the releases of R19, the records of R20 and the entry of R21 change each a block of its own, and what they change of
the nest is one change of it. -/
theorem abortReleasesEveryClaim : Obligations.AbortReleasesEveryClaim := by
  intro n reason s test
  rw [abortUnit, if_pos (underTest_iff.mpr test), releaseClaims_eq]
  simp only [dropRecords, State.modRecord, State.modNest_store, State.modNest_setStore, State.modNest_modNest, Option.map_map]
  rfl

end Sys2Proof.Machine
end

section
/-! PROOFS. The wait timer (R59), PERMIT_TIMEOUT (R59, R60) and the withdrawal of the quiet requests in queue order (R60, R128). -/

namespace Sys2Proof.Machine

open Sys2Proof

variable {s t : State}

/-! ## The wait timer (R59) -/

/-- The running modes are RUN, HOLDING and HELD. -/
theorem running_iff {m : Mode} : m.running = true ↔ m = .run ∨ m = .holding ∨ m = .held := by
  cases m <;> simp [Mode.running]

/-- The conditions of the wait timer, written out. -/
theorem waitCondition_iff : waitCondition s = true ↔
    role s ≠ .solo ∧ (s.run.mode = .run ∨ s.run.mode = .holding ∨ s.run.mode = .held) ∧ s.arbiter.queue ≠ [] ∧ s.permit.held = false := by
  simp [waitCondition, running_iff, and_assoc]

/-- The wait timer is left as it is exactly while it runs and its conditions hold, or neither. -/
theorem waitTimerChange_none : waitTimerChange s = none ↔ (s.permit.waitTimer ≠ none ↔ waitCondition s = true) := by
  unfold waitTimerChange
  cases s.permit.waitTimer <;> cases waitCondition s <;> simp

/-- Between two events the wait timer has followed its conditions. -/
theorem waitTimer_of_quiescent (h : Quiescent s) : s.permit.waitTimer ≠ none ↔ waitCondition s = true :=
  waitTimerChange_none.mp (nextInternal_none.mp h _ (by simp [internals]))

/-! ## The fault of PERMIT_TIMEOUT (R59, R179, R180) -/

/-- The record of a PERMIT_TIMEOUT names the head of the queue, its unit and its step. -/
theorem recordTimeout_head {n : NestId} {rest : List NestId} {r : UnitRecord} {st : Step} (a : Action)
    (hq : s.arbiter.queue = n :: rest) (hr : (s.nest n).record = some r) (hst : (s.nest n).step = some st) :
    recordTimeout a s =
      recordFault .permitTimeout (.role (role s)) (some n) (some r.serial) (some st.segment) (some st.step) a s := by
  simp [recordTimeout, hq, hr, hst]

/-- The record of a fault leaves the mode to the fault's action. -/
@[simp] theorem recordFault_mode {k : FaultKind} {d : FaultDetail} {n : Option NestId} {a b c : Option Nat} {x : Action} :
    (recordFault k d n a b c x s).run.mode = s.run.mode := by
  simp [recordFault]

/-- A fault with action CONTINUE has no effect on the mode (R180). -/
theorem applyStop_continue (k : FaultKind) : applyStop k .continue_ s = s := by
  simp [applyStop]

/-- A fault with action STOP takes a part in a running mode to STOPPED (R180). -/
theorem applyStop_running (k : FaultKind) (h : s.run.mode.running = true) :
    applyStop k .stop s = leaveRunning .stopped (.fault k) s := by
  simp [applyStop, h]

/-- A timer whose expiry has not been taken is due from its limit on. -/
theorem timerDue_of_le {k e : Nat} (h : k ≤ e) : timerDue k (some ⟨e, false⟩) = true := by
  simp [timerDue, h]

section
variable (hc : waitCondition s = true) (hd : timerDue (ms s.tables.config.waitLimit) s.permit.waitTimer = true)
include hc hd

/-- A FIRST part regenerates the permit, and then takes the fault's action. -/
theorem permitTimeout_first (hrole : role s = .first) :
    permitTimeout s = some (applyStop .permitTimeout (actionOf s.tables.config.actionTimeout)
      ((recordTimeout (actionOf s.tables.config.actionTimeout) s).setPermit s.permit.take)) := by
  simp [permitTimeout, hc, hd, hrole]

/-- A MEMBER part with action CONTINUE withdraws its quiet requests. -/
theorem permitTimeout_member_continue (hrole : role s = .member) (ha : actionOf s.tables.config.actionTimeout = .continue_) :
    permitTimeout s = some (withdrawAll (recordTimeout .continue_ s)) := by
  simp [permitTimeout, hc, hd, hrole, ha]

/-- A MEMBER part with action STOP stops. -/
theorem permitTimeout_member_stop (hrole : role s = .member) (ha : actionOf s.tables.config.actionTimeout = .stop) :
    permitTimeout s = some (applyStop .permitTimeout .stop (recordTimeout .stop s)) := by
  simp [permitTimeout, hc, hd, hrole, ha]

end

/-! ## The retry start (R127) -/

/-- Of two replacements of one nest the second stands. -/
@[simp] theorem State.setNest_setNest (n : NestId) {x y : Nest} : (s.setNest n x).setNest n y = s.setNest n y := by
  simp [State.setNest]

/-- The change of the Unit Record that a nest holds is a replacement of the nest. -/
theorem State.modRecord_some {n : NestId} {q : UnitRecord} (f : UnitRecord → UnitRecord) (hr : (s.nest n).record = some q) :
    s.modRecord n f = s.setNest n { s.nest n with record := some (f q) } := by
  simp [State.modRecord, State.modNest_eq_setNest, hr]

/-- The Unit Record of a nest in FINISHING with no window pending. -/
theorem finishedRecord_iff {n : NestId} {q : UnitRecord} :
    finishedRecord s n = some q ↔ (s.nest n).state = .finishing ∧ (s.nest n).record = some q ∧ q.pending = 0 := by
  simp [finishedRecord, Option.filter_eq_some_iff]

/-- A nest in FINISHING with no window pending starts the retry of the head key of its Retry List. -/
theorem retryStart_some {n : NestId} {q : UnitRecord} {k : RetryKey} {rest : List RetryKey} (hs : (s.nest n).state = .finishing)
    (hr : (s.nest n).record = some q) (hp : q.pending = 0) (hl : q.retryList = k :: rest) :
    retryStart n s = some (startStep n (makeStep s.tables k.segment k.step true true) (s.setNest n { s.nest n with
      state := .testing
      record := some { q with
        retryList := rest, retriesUsed := q.retriesUsed + 1, position := .retry k.segment k.step } })) := by
  simp [retryStart, finishedRecord_iff.mpr ⟨hs, hr, hp⟩, hl, State.modRecord, State.modNest_eq_setNest, hr]

/-- A retry start is that of a nest in FINISHING with no window pending and a key on its Retry List. -/
theorem retryStart_cases {n : NestId} (h : retryStart n s = some t) : ∃ q k rest, (s.nest n).state = .finishing ∧
    (s.nest n).record = some q ∧ q.pending = 0 ∧ q.retryList = k :: rest := by
  unfold retryStart at h
  split at h
  · cases h
  · next q hq =>
    obtain ⟨hs, hr, hp⟩ := finishedRecord_iff.mp hq
    split at h
    · cases h
    · next k rest hl => exact ⟨q, k, rest, hs, hr, hp, hl⟩

/-- A nest that is not in FINISHING, has a window pending or has no key left tries a retry in vain. -/
theorem attempt_retryStart_none {n : NestId} (h : ∀ q k rest, (s.nest n).state = .finishing → (s.nest n).record = some q →
    q.pending = 0 → q.retryList ≠ k :: rest) : attempt (retryStart n) s = s := by
  rcases attempt_cases (retryStart n) s with ⟨_, stays⟩ | retried
  · exact stays
  · obtain ⟨q, k, rest, hs, hr, hp, hl⟩ := retryStart_cases retried
    exact absurd hl (h q k rest hs hr hp)

/-- A retry start keeps the lifecycle of every other nest, and every Unit Record. -/
theorem retryStart_life {n : NestId} (h : retryStart n s = some t) (m : NestId) :
    (m ≠ n → SameLife (s.nest m) (t.nest m)) ∧ (t.nest m).record.isSome = (s.nest m).record.isSome := by
  obtain ⟨q, k, rest, hs, hr, hp, hl⟩ := retryStart_cases h
  cases (retryStart_some hs hr hp hl).symm.trans h
  have started := startStep_sameLife (s := s.setNest n { s.nest n with
    state := .testing
    record := some { q with retryList := rest, retriesUsed := q.retriesUsed + 1, position := .retry k.segment k.step } })
    n m (makeStep s.tables k.segment k.step true true)
  by_cases hm : m = n
  · subst hm
    exact ⟨absurd rfl, by simpa [hr] using started.2.1⟩
  · rw [State.setNest_nest_ne _ (Ne.symm hm)] at started
    exact ⟨fun _ => started, started.2.1⟩

/-! ## The withdrawal (R60, R128) -/

/-- The withdrawal of a nest's step, of a nest with a Unit Record. -/
theorem withdrawStep_some {n : NestId} {r : UnitRecord} {st : Step} (hr : (s.nest n).record = some r)
    (hst : (s.nest n).step = some st) :
    withdrawStep s n = attempt (retryStart n) (endStep n true (s.setNest n { s.nest n with
      record := some (r.enterRun st.retry st.segment st.step
        [⟨st.segment, st.step, st.code, .window, .invalid, none, none, some .quietUnavailable⟩]) })) := by
  simp [withdrawStep, hst, State.modRecord_some _ hr, invalidFinding]

/-- A nest without a step has none to withdraw. -/
theorem withdrawStep_none {n : NestId} (hst : (s.nest n).step = none) : withdrawStep s n = s := by
  simp [withdrawStep, hst]

/-- A withdrawal keeps the lifecycle of every other nest, and every Unit Record. -/
theorem withdrawStep_life (n m : NestId) :
    (m ≠ n → SameLife (s.nest m) ((withdrawStep s n).nest m)) ∧
      ((withdrawStep s n).nest m).record.isSome = (s.nest m).record.isSome := by
  unfold withdrawStep
  split
  · exact ⟨fun _ => SameLife.refl _, rfl⟩
  · next st _ =>
    generalize hu : s.modRecord n _ = u
    have entered : SameLife (s.nest m) (u.nest m) := hu ▸ modRecord_sameLife n m
    have ended : (m ≠ n → SameLife (u.nest m) ((endStep n true u).nest m)) ∧
        ((endStep n true u).nest m).record.isSome = (u.nest m).record.isSome := by
      rcases endStep_life (s := u) n m true with same | ⟨rfl, _, same⟩
      · exact ⟨fun _ => same, same.2.1⟩
      · exact ⟨absurd rfl, same.2.1⟩
    rcases attempt_cases (retryStart n) (endStep n true u) with ⟨_, stays⟩ | retried
    · rw [stays]
      exact ⟨fun hm => entered.trans (ended.1 hm), ended.2.trans entered.2.1⟩
    · obtain ⟨life, record⟩ := retryStart_life retried m
      exact ⟨fun hm => (entered.trans (ended.1 hm)).trans (life hm), record.trans (ended.2.trans entered.2.1)⟩

/-- Withdrawals that agree with `g` on nests with a Unit Record are together those of `g`. -/
theorem foldl_withdrawStep {g : State → NestId → State}
    (hg : ∀ u n, (u.nest n).record.isSome = true → withdrawStep u n = g u n) :
    ∀ (l : List NestId) (s : State), (∀ n ∈ l, (s.nest n).record.isSome = true) → l.foldl withdrawStep s = l.foldl g s
  | [], _, _ => rfl
  | n :: l, s, h => by
    rw [List.foldl_cons, List.foldl_cons, ← hg s n (h n (by simp))]
    exact foldl_withdrawStep hg l _ fun m hm => by rw [(withdrawStep_life n m).2]; exact h m (by simp [hm])

/-! ## The queue after a withdrawal (R60) -/

/-- A step start leaves the Quiet Request Queue, or adds its nest at the tail. -/
theorem startStep_queue (n : NestId) (st : Step) :
    (startStep n st s).arbiter.queue = s.arbiter.queue ∨ (startStep n st s).arbiter.queue = s.arbiter.queue ++ [n] := by
  unfold startStep meetGate
  split
  · exact .inl (by simp)
  · exact .inr (by simp [joinQuiet])
  · split
    · exact .inl (by simp [passLoud])
    · exact .inl (by simp [waitLoud])

/-- The walk's advance leaves the queue, or adds its nest at the tail and leaves its nest state. -/
theorem advance_queue (n : NestId) (b : Bool) :
    (advance n b s).arbiter.queue = s.arbiter.queue ∨
      ((advance n b s).arbiter.queue = s.arbiter.queue ++ [n] ∧ ((advance n b s).nest n).state = (s.nest n).state) := by
  have start : ∀ (u : State) r e j, u.arbiter = s.arbiter → (u.nest n).state = (s.nest n).state →
      (startAt n r e j b u).arbiter.queue = s.arbiter.queue ∨
        ((startAt n r e j b u).arbiter.queue = s.arbiter.queue ++ [n] ∧ ((startAt n r e j b u).nest n).state = (s.nest n).state) :=
    fun u r e j ha hs => by
      have queue := startStep_queue (s := u.modRecord n fun r => { r with position := .at_ e j }) n
        (makeStep u.tables (entrySegment (planAt u.tables r.plan) e) j false b)
      rw [State.modRecord_arbiter, ha] at queue
      exact queue.imp_right fun joined => ⟨joined, (startAt_sameLife n n r e j b).1.trans hs⟩
  unfold advance
  split
  · exact .inl rfl
  · split
    · exact .inl rfl
    · exact .inl (by simp)
    · dsimp only
      split
      · exact start s _ _ _ rfl rfl
      · split
        · exact start _ _ _ _ (by simp) (by simp)
        · exact .inl (by simp)

/-- A retry start leaves the queue, or adds its nest at the tail. -/
theorem retryStart_queue {n : NestId} (h : retryStart n s = some t) : t.arbiter.queue.Sublist (s.arbiter.queue ++ [n]) := by
  obtain ⟨q, k, rest, hs, hr, hp, hl⟩ := retryStart_cases h
  cases (retryStart_some hs hr hp hl).symm.trans h
  rcases startStep_queue n (makeStep s.tables k.segment k.step true true) with queue | queue
  · rw [queue]; exact List.sublist_append_left _ _
  · rw [queue]; exact List.Sublist.refl _

/-- The end of a step of a nest leaves no other nest in the queue than before; where it adds its own nest, that nest keeps its state. -/
theorem endStep_queue (n : NestId) (b : Bool) :
    (endStep n b s).arbiter.queue.Sublist s.arbiter.queue ∨
      ((endStep n b s).arbiter.queue.Sublist (s.arbiter.queue ++ [n]) ∧ ((endStep n b s).nest n).state = (s.nest n).state) := by
  have released : (releaseQuiet n (returnPairs n s)).arbiter.queue.Sublist s.arbiter.queue := List.filter_sublist
  have state : ((releaseQuiet n (returnPairs n s)).nest n).state = (s.nest n).state := by simp [releaseQuiet, returnPairs]
  unfold endStep
  rcases advance_queue (s := releaseQuiet n (returnPairs n s)) n b with queue | ⟨queue, same⟩
  · exact .inl (queue ▸ released)
  · exact .inr ⟨queue ▸ released.append_right [n], same.trans state⟩

/-- The withdrawal of a nest that is not in FINISHING adds it at most once, at the tail of the queue, and no other nest: it rejoins with
the next step of its plan, or, having come to FINISHING, with a retry. -/
theorem withdrawStep_queue {n : NestId} (h : (s.nest n).state ≠ .finishing) :
    (withdrawStep s n).arbiter.queue.Sublist (s.arbiter.queue ++ [n]) := by
  unfold withdrawStep
  split
  · exact List.sublist_append_left _ _
  · next st _ =>
    generalize hu : s.modRecord n _ = u
    have queue : u.arbiter.queue = s.arbiter.queue := by simp [← hu]
    have state : (u.nest n).state = (s.nest n).state := by simp [← hu]
    rw [← queue]
    rcases attempt_cases (retryStart n) (endStep n true u) with ⟨_, stays⟩ | retried
    · rw [stays]
      rcases endStep_queue (s := u) n true with left | ⟨joined, _⟩
      · exact left.trans (List.sublist_append_left _ _)
      · exact joined
    · rcases endStep_queue (s := u) n true with left | ⟨_, same⟩
      · exact (retryStart_queue retried).trans (left.append_right [n])
      · obtain ⟨_, _, _, finishing, _⟩ := retryStart_cases retried
        exact absurd (state ▸ same ▸ finishing) h

/-- The withdrawals of nests that stand once in a list, none in FINISHING, add at most these nests, in the order of the list. -/
theorem foldl_withdrawStep_queue : ∀ (l : List NestId) (s : State), l.Nodup → (∀ n ∈ l, (s.nest n).state ≠ .finishing) →
    (l.foldl withdrawStep s).arbiter.queue.Sublist (s.arbiter.queue ++ l)
  | [], s, _, _ => by simp
  | n :: l, s, once, h => by
    obtain ⟨fresh, once⟩ := List.nodup_cons.mp once
    have others : ∀ m ∈ l, ((withdrawStep s n).nest m).state ≠ .finishing := fun m hm => by
      have life := (withdrawStep_life (s := s) n m).1 fun same => fresh (same ▸ hm)
      rw [life.1]
      exact h m (by simp [hm])
    have rest := foldl_withdrawStep_queue l _ once others
    simpa using rest.trans ((withdrawStep_queue (h n (by simp))).append_right l)

/-- A nest of the Quiet Request Queue is in TESTING. -/
theorem testing_of_queued (h : PlacesFollowPhase s) {n : NestId} (hn : n ∈ s.arbiter.queue) : (s.nest n).state = .testing := by
  by_contra hs
  obtain ⟨gate, _⟩ := h.quiet n hn
  rw [h.noPhase n hs] at gate
  cases gate

/-! ## The statement -/

/-- PERMIT_TIMEOUT by role and action, its fault recorded with the head of the queue. -/
theorem exec_permitTimeout {e : Nat} {n : NestId} {rest : List NestId} {r : UnitRecord} {st : Step} {recorded : State} {a : Action}
    (hm : s.run.mode = .run ∨ s.run.mode = .holding ∨ s.run.mode = .held) (hq : s.arbiter.queue = n :: rest)
    (hh : s.permit.held = false) (hw : s.permit.waitTimer = some ⟨e, false⟩) (he : s.tables.config.waitLimit * 96 ≤ e)
    (hr : (s.nest n).record = some r) (hst : (s.nest n).step = some st) (ha : actionOf s.tables.config.actionTimeout = a)
    (hrec : recorded = recordFault .permitTimeout (.role (role s)) (some n) (some r.serial) (some st.segment) (some st.step) a s) :
    (role s = .first → exec .permitTimeout s = .next (settle (applyStop .permitTimeout a (recorded.setPermit s.permit.take)))) ∧
    (role s = .member → a = .continue_ → exec .permitTimeout s = .next (settle (withdrawAll recorded))) ∧
    (role s = .member → a = .stop → exec .permitTimeout s = .next (settle (applyStop .permitTimeout a recorded))) := by
  have condition : role s ≠ .solo → waitCondition s = true := fun solo => waitCondition_iff.mpr ⟨solo, hm, by simp [hq], hh⟩
  have due : timerDue (ms s.tables.config.waitLimit) s.permit.waitTimer = true := hw ▸ timerDue_of_le he
  have head : recordTimeout a s = recorded := (recordTimeout_head a hq hr hst).trans hrec.symm
  have taken : ∀ {u}, permitTimeout s = some u → exec .permitTimeout s = .next (settle u) := fun h => congrArg _ (happen_some h)
  refine ⟨fun regenerates => taken ?_, fun member go => taken ?_, fun member stop => taken ?_⟩
  · rw [permitTimeout_first (condition (by simp [regenerates])) due regenerates, ha, head]
  · rw [permitTimeout_member_continue (condition (by simp [member])) due member (ha.trans go), ← go, head]
  · rw [permitTimeout_member_stop (condition (by simp [member])) due member (ha.trans stop), ← stop, head]

/-- Settles O33: the wait timer follows its conditions, the fault acts by role and action, and the withdrawals go through the queue one
nest after another, so that the nests that rejoin keep their order. -/
theorem permitTimesOut : Obligations.PermitTimesOut := by
  refine ⟨fun s => ?_, ?_, ?_, ?_⟩
  · dsimp only
    rw [← waitCondition_iff]
    refine ⟨fun h hn => ?_, fun h hn => ?_, fun h hn => ?_, fun h hn => ?_, waitTimer_of_quiescent⟩
    · simp [waitTimerChange, h, hn, Timer.start]
    · simp [waitTimerChange, h, Option.isSome_iff_ne_none.mpr hn]
    · exact waitTimerChange_none.mpr (iff_of_true hn h)
    · exact waitTimerChange_none.mpr (iff_of_false (not_not.mpr hn) h)
  · intro e n rest r st s hm hq hh hw he hr hst
    dsimp only
    obtain ⟨regenerates, member_go, member_stop⟩ := exec_permitTimeout hm hq hh hw he hr hst rfl rfl
    refine ⟨fun role go => ?_, fun role stop => ?_, member_go, fun role stop => ?_⟩
    · rw [regenerates role, go, applyStop_continue]
      rfl
    · rw [regenerates role, stop, applyStop_running _ (by simp [running_iff, hm])]
      rfl
    · rw [member_stop role stop, stop, applyStop_running _ (by simp [running_iff, hm])]
  · intro s
    refine fun held => foldl_withdrawStep (fun u n hu => ?_) _ _ (by simpa using held)
    obtain ⟨r, hr⟩ := Option.isSome_iff_exists.mp hu
    cases hst : (u.nest n).step with
    | none => simp [withdrawStep_none hst, hr]
    | some st =>
      rw [withdrawStep_some hr hst]
      simp only [hr]
      generalize endStep n true _ = v
      split
      · next q hs hq =>
        split
        · next k rest hp hl => simp [attempt, retryStart_some hs hq hp hl]
        · next stays =>
          exact attempt_retryStart_none fun p k rest _ hp pending list => by
            cases hq.symm.trans hp
            exact stays k rest pending list
      · next stays => exact attempt_retryStart_none fun p _ _ hs hp => absurd hp (stays p hs)
  · intro s places
    simpa [withdrawAll] using foldl_withdrawStep_queue s.arbiter.queue
      ((s.setArbiter { s.arbiter with queue := [] }).setPermit { s.permit with waitTimer := none }) places.quietOnce
      fun n hn => by simp [testing_of_queued places hn]

end Sys2Proof.Machine
end

section
/-! PROOFS. The reading commands, whose replies change nothing that a consequence waits for (R23, R155, R182, R201), and the commands on the
sets of notice kinds (R198, R199). -/

namespace Sys2Proof.Machine

open Sys2Proof

variable {s : State} {p : Port}

/-! ## The conditions of the consequences -/

/-- The permit is passed under the passing conditions (R58). -/
theorem permitPass_isSome : (permitPass s).isSome = passDue s := by
  unfold permitPass
  split <;> simp_all

/-- Quiet is granted to a queue that is not empty (R49). -/
theorem quietGrant_isSome : (quietGrant s).isSome =
    (!s.arbiter.queue.isEmpty && (s.arbiter.holder.isNone && permitAvailable s && loudPastEmpty s.arbiter)) := by
  unfold quietGrant
  split
  · simp_all
  · split <;> simp_all

/-- The open gate passes a loud-wait set that is not empty (R51). -/
theorem loudGatePass_isSome : (loudGatePass s).isSome = (gateOpen s && nestIds.any fun n => s.arbiter.loudWait[n]) := by
  unfold loudGatePass
  split <;> simp_all

/-- The wait timer changes where its conditions and its running differ (R59). -/
theorem waitTimerChange_isSome : (waitTimerChange s).isSome = (waitCondition s ^^ s.permit.waitTimer.isSome) := by
  unfold waitTimerChange
  cases s.permit.waitTimer <;> cases waitCondition s <;> rfl

/-- A free record closes the window of a nest that waits for it (R76). -/
theorem windowClose_isSome : (windowClose s).isSome = (!s.store.closeWait.isEmpty && decide (0 < s.store.free)) := by
  unfold windowClose
  split
  · simp_all
  · split <;> simp_all

/-- The head of the Allocation Queue is granted its pairs once the free count allows (R67). -/
theorem pairGrant_isSome : (pairGrant s).isSome = s.bank.queue.head?.any fun e => decide (e.2 ≤ s.bank.free) := by
  unfold pairGrant
  split
  · simp_all
  · split
    · split <;> simp_all
    · simp_all

/-- A SETTLE of 0 frames ends at once (R39). -/
theorem zeroSettle_isSome (n : NestId) : (zeroSettle n s).isSome =
    (decide ((s.nest n).phase = some .settle) && (s.nest n).step.any fun st => decide (st.settle = 0)) := by
  unfold zeroSettle settleEnd
  split
  · next hz =>
    split
    · (repeat' split) <;> simp_all
    · next other =>
      obtain ⟨st, hst, _⟩ := (Option.any_eq_true _ _).mp hz
      have unsettled : (s.nest n).phase ≠ some .settle := fun hp => other st hp hst
      simp [unsettled]
  · simp_all

/-- A retry starts from a Retry List that is not empty (R127). -/
theorem retryStart_isSome (n : NestId) : (retryStart n s).isSome = (finishedRecord s n).any fun r => !r.retryList.isEmpty := by
  unfold retryStart
  split
  · simp_all
  · split <;> simp_all

/-- A unit is graded with an empty Retry List (R133). -/
theorem grading_isSome (n : NestId) : (grading n s).isSome = (finishedRecord s n).any fun r => r.retryList.isEmpty := by
  unfold grading
  split
  · simp_all
  · split <;> simp_all

/-- The idle Figure Unit takes a record from a Judge Queue that is not empty (R98). -/
theorem figureUnitTake_isSome : (figureUnitTake s).isSome = (s.store.computing.isNone && !s.store.judgeQueue.isEmpty) := by
  unfold figureUnitTake
  cases s.store.computing <;> cases s.store.judgeQueue <;> rfl

/-- A label frame starts for a Label Queue that is not empty (R166). -/
theorem markerFrameStart_isSome : (markerFrameStart s).isSome = (!s.marker.labels.isEmpty &&
    (decide (s.marker.send = .idle) && s.inputs.markerReady.debounced && decide (s.run.mode ≠ .stopped) && !s.marker.hold)) := by
  unfold markerFrameStart
  split
  · simp_all
  · split <;> simp_all

/-- Unreported drops are reported once a non-reply slot is available (R197). -/
theorem reportsDropped_isSome : (reportsDropped s).isSome = (decide (0 < s.port.unreported) && nonReplyAvailable s.port) := by
  unfold reportsDropped
  split <;> simp_all

/-- A holding part with no unit in flight reaches HELD (R176). -/
theorem heldReached_isSome : (heldReached s).isSome =
    (decide (s.run.mode = .holding) && nestIds.all fun n => !(s.nest n).state.inFlight) := by
  unfold heldReached
  split <;> simp_all

/-! ## A change of the Station Port between two events -/

/-- The consequences whose conditions do not read the Station Port. -/
def portBlind : List (State → Option State) :=
  [permitPass, quietGrant, loudGatePass, waitTimerChange, windowClose, pairGrant,
   zeroSettle 0, zeroSettle 1, zeroSettle 2, zeroSettle 3,
   retryStart 0, retryStart 1, retryStart 2, retryStart 3,
   grading 0, grading 1, grading 2, grading 3,
   figureUnitTake, markerFrameStart, heldReached]

/-- Only four consequences have a condition that reads the Station Port. -/
theorem portBlind_or {event : State → Option State} (h : event ∈ internals) :
    event ∈ portBlind ∨ event = reserveNext ∨ event = waitingReply ∨ event = reportsDropped ∨ event = serve := by
  have cut : internals =
      portBlind.take 19 ++ [reserveNext, markerFrameStart, waitingReply, reportsDropped, heldReached, serve] := rfl
  rw [cut, List.mem_append] at h
  rcases h with blind | h
  · exact .inl (List.mem_of_mem_take blind)
  · have marker : markerFrameStart ∈ portBlind := by simp [portBlind]
    have held : heldReached ∈ portBlind := by simp [portBlind]
    simp only [List.mem_cons, List.not_mem_nil, or_false] at h
    rcases h with rfl | rfl | rfl | rfl | rfl | rfl <;> simp [marker, held]

/-- A change of the Station Port leaves their conditions as they are. -/
theorem portBlind_setPort : ∀ event ∈ portBlind, (event (s.setPort p)).isSome = (event s).isSome := by
  simp only [portBlind, List.forall_mem_cons, permitPass_isSome, quietGrant_isSome, loudGatePass_isSome, waitTimerChange_isSome,
    windowClose_isSome, pairGrant_isSome, zeroSettle_isSome, retryStart_isSome, grading_isSome, figureUnitTake_isSome,
    markerFrameStart_isSome, heldReached_isSome]
  exact ⟨rfl, rfl, rfl, rfl, rfl, rfl, rfl, rfl, rfl, rfl, rfl, rfl, rfl, rfl, rfl, rfl, rfl, rfl, rfl, rfl, rfl, by simp⟩

/-! ## Between two events, with another Station Port -/

/-- A unit in DISPOSING is disposed of once it is graded or aborted and can take its reservation (R14, R21). -/
theorem disposeNest_isSome (n : NestId) : (disposeNest s n).isSome =
    (reservable s n).any fun r => r.disposition.isSome || r.abort.isSome := by
  unfold disposeNest disposal abortedDisposal
  cases reservable s n with
  | none => rfl
  | some r => cases hd : r.disposition <;> cases ha : r.abort <;> simp [hd, ha]

/-- A Station Port with no more non-reply slots gives no nest a reservation that it did not have. -/
theorem reservable_setPort {n : NestId} {r : UnitRecord} (slot : nonReplyAvailable p = true → nonReplyAvailable s.port = true)
    (h : reservable (s.setPort p) n = some r) : reservable s n = some r := by
  unfold reservable at h ⊢
  split at h
  · next hs =>
    rw [State.setPort_nest] at hs
    rw [if_pos hs]
    simp only [State.setPort_nest, State.setPort_port, State.setPort_marker, Option.filter_eq_some_iff, Bool.and_eq_true] at h ⊢
    obtain ⟨hr, ⟨pending, place⟩, label⟩ := h
    exact ⟨hr, ⟨pending, slot place⟩, label⟩
  · cases h

/-- A Station Port with no command, no waiting reply and no more non-reply slots lets nothing happen that could not before. -/
theorem quiescent_setPort (h : Quiescent s) (slot : nonReplyAvailable p = true → nonReplyAvailable s.port = true)
    (drops : p.unreported = s.port.unreported) (waiting : p.waiting = none) (buffer : p.buffer = []) : Quiescent (s.setPort p) := by
  have before := nextInternal_none.mp h
  refine nextInternal_none.mpr fun event hm => ?_
  rcases portBlind_or hm with blind | rfl | rfl | rfl | rfl
  · have still := portBlind_setPort (s := s) (p := p) event blind
    rw [before event hm] at still
    exact Option.not_isSome_iff_eq_none.mp (by simp [still])
  · have none_disposed := before reserveNext hm
    simp only [reserveNext, List.findSome?_eq_none_iff, State.setPort_disposing] at none_disposed ⊢
    intro n hn
    by_contra disposed
    have condition := Option.isSome_iff_ne_none.mpr disposed
    rw [disposeNest_isSome, Option.any_eq_true] at condition
    obtain ⟨r, hr, judged⟩ := condition
    have earlier := disposeNest_isSome (s := s) n
    simp [none_disposed n hn, reservable_setPort slot hr, judged] at earlier
  · simp [waitingReply, waiting]
  · by_contra reported
    have condition := Option.isSome_iff_ne_none.mpr reported
    rw [reportsDropped_isSome, State.setPort_port, drops, Bool.and_eq_true] at condition
    have earlier := reportsDropped_isSome (s := s)
    simp [before reportsDropped hm, condition.1, slot condition.2] at earlier
  · simp [serve, buffer]

/-- A message more in the Result Queue makes no non-reply slot available (R193). -/
theorem nonReplyAvailable_of_place {m : Message} (h : nonReplyAvailable (p.place m) = true) : nonReplyAvailable p = true := by
  simp only [nonReplyAvailable, Port.place, List.length_append, decide_eq_true_eq] at h ⊢
  exact Nat.lt_of_le_of_lt (Nat.add_le_add_right (Nat.le_add_right _ _) _) h

/-- A reply in the Result Queue of a part that serves lets nothing happen (R193). -/
theorem quiescent_withReply {tag : Byte} {code : ReplyCode} {data : ReplyData} (hs : Serving s) (h : Quiescent s) :
    Quiescent (s.withReply tag code data) := by
  obtain ⟨buffer, waiting, _⟩ := hs
  exact quiescent_setPort h nonReplyAvailable_of_place rfl waiting buffer

/-- A command that is answered and changes nothing ends with its reply. -/
theorem arrive_reading {tag : Byte} {c : Command} {code : ReplyCode} {data : ReplyData} (hs : Serving s) (hq : Quiescent s)
    (handled : handleCommand tag c s = (s, some (code, data))) :
    (.next (settle (arrive ⟨tag, .command c⟩ s)) : Result) = .next (s.withReply tag code data) := by
  rw [arrive_command hs handled rfl, settle_quiet (quiescent_withReply hs hq)]

/-! ## The fields of the replies (R23, R201) -/

/-- The ALERT output is high while some kind is pending and enabled (R199). -/
theorem alertHigh_eq (p : Port) : alertHigh p = decide (∃ k : Fin 8, p.alertPending[k] = true ∧ p.alertEnable[k] = true) := by
  rw [Bool.eq_iff_iff, decide_eq_true_iff]
  simp [alertHigh, Fin.exists_fin_succ]

/-- The loud gate is open without a quiet holder, while the queue is empty or the permit is not available (R51). -/
theorem gateOpen_eq (s : State) :
    gateOpen s = decide (s.arbiter.holder = none ∧ (s.arbiter.queue = [] ∨ permitAvailable s = false)) := by
  rw [Bool.eq_iff_iff, decide_eq_true_iff]
  simp [gateOpen]

/-! ## Sets of notice kinds (R198, R199) -/

/-- Each kind has a place of its own. -/
theorem noticeIndex_inj {j k : NoticeKind} (h : noticeIndex j = noticeIndex k) : j = k := by
  cases j <;> cases k <;> simp_all [noticeIndex]

/-- The kinds of a command are refused exactly where one is unknown. -/
theorem knownKinds_unknown {code : Nat} : ∀ {kinds : List NoticeArg}, .unknown code ∈ kinds → knownKinds kinds = none
  | .unknown _ :: _, _ => rfl
  | .known _ :: rest, h => by simp [knownKinds, knownKinds_unknown (kinds := rest) (by simpa using h)]

/-- With no unknown kind, the kinds of a command are the known ones that it names. -/
theorem knownKinds_known : ∀ {kinds : List NoticeArg}, (∀ code, .unknown code ∉ kinds) →
    ∃ ks, knownKinds kinds = some ks ∧ ∀ k, k ∈ ks ↔ .known k ∈ kinds
  | [], _ => ⟨[], rfl, by simp⟩
  | .unknown code :: _, h => absurd List.mem_cons_self (h code)
  | .known j :: rest, h => by
    obtain ⟨ks, hks, mem⟩ := knownKinds_known (kinds := rest) fun code hm => h code (List.mem_cons_of_mem _ hm)
    exact ⟨j :: ks, by simp [knownKinds, hks], by simp [mem]⟩

/-- The set after the kinds are put in or out: the named ones are put, the others stay. -/
theorem putKinds_get (b : Bool) (k : NoticeKind) : ∀ (ks : List NoticeKind) (x : NoticeSet),
    (putKinds b ks x)[noticeIndex k] = if k ∈ ks then b else x[noticeIndex k]
  | [], x => rfl
  | j :: ks, x => by
    have rest := putKinds_get b k ks (x.set (noticeIndex j) b)
    by_cases hk : j = k
    · subst hk
      simp_all [putKinds]
    · have apart : (noticeIndex j).val ≠ (noticeIndex k).val := fun same => hk (noticeIndex_inj (Fin.ext same))
      simp_all [putKinds, Ne.symm hk]

/-- The set with the kinds of a command added. -/
theorem putKinds_added {kinds : List NoticeArg} {ks : List NoticeKind} (mem : ∀ k, k ∈ ks ↔ .known k ∈ kinds) (x : NoticeSet)
    (k : NoticeKind) : (putKinds true ks x)[noticeIndex k] = (x[noticeIndex k] || decide (.known k ∈ kinds)) := by
  rw [putKinds_get]
  by_cases h : NoticeArg.known k ∈ kinds <;> simp [mem, h]

/-- The set with the kinds of a command removed. -/
theorem putKinds_removed {kinds : List NoticeArg} {ks : List NoticeKind} (mem : ∀ k, k ∈ ks ↔ .known k ∈ kinds) (x : NoticeSet)
    (k : NoticeKind) : (putKinds false ks x)[noticeIndex k] = (x[noticeIndex k] && !decide (.known k ∈ kinds)) := by
  rw [putKinds_get]
  by_cases h : NoticeArg.known k ∈ kinds <;> simp [mem, h]

/-- A command on a set of notice kinds that names an unknown one is refused. -/
theorem arrive_unknownKind {tag : Byte} {c : Command} {kinds : List NoticeArg} {code : Nat} {update} (handler : State → State × Answer)
    (hs : Serving s) (hm : .unknown code ∈ kinds) (handled : handleCommand tag c s = handler s)
    (isKinds : handler = handleKinds kinds update) : arrive ⟨tag, .command c⟩ s = s.withReply tag .badArgument .none :=
  arrive_refused hs (by rw [handled, isKinds, handleKinds, knownKinds_unknown hm])

/-- A command on a set of notice kinds whose kinds are known updates its set. -/
theorem arrive_knownKinds {tag : Byte} {c : Command} {kinds : List NoticeArg} {ks : List NoticeKind} {update}
    (handler : State → State × Answer) (hs : Serving s) (hks : knownKinds kinds = some ks) (handled : handleCommand tag c s = handler s)
    (isKinds : handler = handleKinds kinds update) (results : (update ks s.port).results = s.port.results) :
    arrive ⟨tag, .command c⟩ s = (s.setPort (update ks s.port)).withReply tag .ok .none :=
  arrive_command hs (by rw [handled, isKinds, handleKinds, hks]; rfl) results

/-! ## The statement -/

/-- Settles O57: a reading command leaves a quiescent part quiescent, and each field of its reply is read off the state; a command on a
set of kinds puts in, or takes out, the kinds it names. -/
theorem portCommands : Obligations.PortCommands := by
  refine ⟨fun tag s hs hq => ⟨?_, ?_, ?_, fun nest => ⟨fun above => ?_, ?_⟩⟩, fun tag kinds s hs => ⟨fun code hm => ?_, fun known => ?_⟩⟩
  · refine (arrive_reading hs hq rfl).trans ?_
    simp only [statusReply, followingFlags, alertHigh_eq, gateOpen_eq, isEngineer]
    congr
    · funext m
      cases m <;> rfl
    · cases s.store.computing <;> rfl
    · exact List.countP_eq_length_filter.symm
    · funext n
      congr
      funext r
      cases hd : r.disposition <;> simp [needsLabel, hd]
  · exact arrive_reading hs hq rfl
  · exact arrive_reading hs hq rfl
  · exact arrive_reading hs hq (by simp [handleCommand, handleReadNest, nestOf_above above, refuse])
  · rintro n rfl
    have handled : handleCommand tag (.readNest n.val) s = (s, some (.ok, .nest (nestReply s n))) := by
      simp [handleCommand, handleReadNest]
    refine (arrive_reading hs hq handled).trans ?_
    rw [nestReply]
    congr
    simp
  · exact ⟨next_settle (arrive_unknownKind (handleSetNotices kinds) hs hm rfl rfl),
      next_settle (arrive_unknownKind (handleClearNotices kinds) hs hm rfl rfl),
      next_settle (arrive_unknownKind (handleSetAlerts kinds) hs hm rfl rfl),
      next_settle (arrive_unknownKind (handleClearAlerts kinds) hs hm rfl rfl),
      next_settle (arrive_unknownKind (handleAckAlerts kinds) hs hm rfl rfl)⟩
  · obtain ⟨ks, hks, mem⟩ := knownKinds_known known
    exact ⟨⟨_, putKinds_added mem _, next_settle (arrive_knownKinds (handleSetNotices kinds) hs hks rfl rfl rfl)⟩,
      ⟨_, putKinds_removed mem _, next_settle (arrive_knownKinds (handleClearNotices kinds) hs hks rfl rfl rfl)⟩,
      ⟨_, putKinds_added mem _, next_settle (arrive_knownKinds (handleSetAlerts kinds) hs hks rfl rfl rfl)⟩,
      ⟨_, putKinds_removed mem _, next_settle (arrive_knownKinds (handleClearAlerts kinds) hs hks rfl rfl rfl)⟩,
      ⟨_, putKinds_removed mem _, next_settle (arrive_knownKinds (handleAckAlerts kinds) hs hks rfl rfl rfl)⟩⟩

end Sys2Proof.Machine
end

section
/-! PROOFS. The frame event (R187 to R192, R200): the passing of time, the exchange of the Station Port frames, and the bytes of the
upstream frame, which no later part of the event changes. -/

namespace Sys2Proof.Machine

open Sys2Proof

variable {s t : State}

/-! ## The bytes of the upstream frame (R189, R200) -/

/-- The three bytes of a slot are its sample. -/
theorem sampleBytes_append (x : Sample) :
    (x.extractLsb' 16 8 ++ x.extractLsb' 8 8 ++ x.extractLsb' 0 8 : BitVec 24) = x := by
  refine BitVec.eq_of_getLsbD_eq fun i hi => ?_
  simp only [BitVec.getLsbD_append, BitVec.getLsbD_extractLsb']
  grind

/-- Blocks of three bytes, one after another: the one at place `i` stands from byte 3i on. -/
theorem flatMap_block {α : Type} {g : α → List Byte} (three : ∀ a, (g a).length = 3) :
    ∀ (l : List α) (i : Nat) (h : i < l.length), ((l.flatMap g).drop (3 * i)).take 3 = g l[i]
  | a :: l, 0, _ => by simp [← three a]
  | a :: l, i + 1, h => by
    have skip : 3 * (i + 1) = (g a).length + 3 * i := by rw [three]; omega
    rw [List.flatMap_cons, skip, List.drop_length_add_append]
    exact flatMap_block three l i (Nat.lt_of_succ_lt_succ h)

/-- The eight sample slots have 24 bytes. -/
theorem slotBytes_length (f : InFrame) (before after : State) : (slotBytes f before after).length = 24 := by
  simp [slotBytes, sampleBytes]

/-- Whether the frame is one of a nest's window frames, nest by nest. -/
theorem gates_get (s : State) (n : NestId) :
    #v[windowIsOpen (s.nest 0), windowIsOpen (s.nest 1), windowIsOpen (s.nest 2), windowIsOpen (s.nest 3)][n] =
      windowIsOpen (s.nest n) := by
  fin_cases n <;> rfl

/-- A sample slot carries the sample that its Tap Table entry names. -/
theorem slotBytes_slot (f : InFrame) (before after : State) (k : Fin 8) :
    ((slotBytes f before after).drop (3 * k.val)).take 3 = sampleBytes (tapSample f after.conv.drive
      #v[windowIsOpen (before.nest 0), windowIsOpen (before.nest 1), windowIsOpen (before.nest 2), windowIsOpen (before.nest 3)]
      after.tables.taps[k]) := by
  simpa [slotBytes] using flatMap_block (g := fun x => sampleBytes (tapSample f after.conv.drive _ x)) (fun _ => rfl)
    after.tables.taps.toList k.val (by simp)

/-- The bits of the status byte: the mode's code, and one bit for each of three flags. -/
theorem statusBits (m : Mode) (a h y : Bool) :
    let b := BitVec.ofNat 8 (modeCode m + (if a then 8 else 0) + (if h then 16 else 0) + (if y then 32 else 0))
    b.extractLsb' 0 3 = BitVec.ofNat 3 (modeCode m) ∧ b.getLsbD 3 = a ∧ b.getLsbD 4 = h ∧ b.getLsbD 5 = y ∧
      b.getLsbD 6 = false ∧ b.getLsbD 7 = false := by
  revert a h y
  cases m <;> decide

/-- Each place of a set is that of a kind. -/
theorem noticeIndex_surj (k : Fin 8) : ∃ kind, noticeIndex kind = k := by
  fin_cases k
  exacts [⟨.faultRaised, rfl⟩, ⟨.modeChanged, rfl⟩, ⟨.nestAlert, rfl⟩, ⟨.yieldLow, rfl⟩, ⟨.yieldRecovered, rfl⟩,
    ⟨.guardExceeded, rfl⟩, ⟨.labelDiscarded, rfl⟩, ⟨.reportsDropped, rfl⟩]

/-- A kind that is pending and enabled, by its place in the sets. -/
theorem alertHigh_iff (p : Port) : alertHigh p = true ↔
    ∃ k : NoticeKind, p.alertPending[noticeIndex k] = true ∧ p.alertEnable[noticeIndex k] = true := by
  rw [alertHigh_eq, decide_eq_true_iff]
  constructor
  · rintro ⟨k, hk⟩
    obtain ⟨kind, rfl⟩ := noticeIndex_surj k
    exact ⟨kind, hk⟩
  · rintro ⟨kind, hk⟩
    exact ⟨noticeIndex kind, hk⟩

/-! ## What leaves the upstream frame as it is (R189) -/

/-- A change of mode leaves the upstream frame. -/
@[simp] theorem changeMode_upstream (m : Mode) (c : ModeCause) : (changeMode m c s).port.upstream = s.port.upstream := by
  simp [changeMode]

/-- The yield check leaves the upstream frame. -/
@[simp] theorem yieldCheck_upstream (v : Nat) (n : NestId) : (yieldCheck v n s).port.upstream = s.port.upstream := by
  unfold yieldCheck
  dsimp only
  (repeat' split) <;> simp

/-- The consecutive-fail update leaves the upstream frame. -/
@[simp] theorem failCheck_upstream (n : NestId) (v c b : Nat) : (failCheck n v c b s).port.upstream = s.port.upstream := by
  unfold failCheck
  dsimp only
  split <;> simp

/-- A YIELD_RECOVERED leaves the upstream frame. -/
@[simp] theorem recoveredBy_upstream (c : RecoveryCause) (w : Bool) : (recoveredBy c w s).port.upstream = s.port.upstream := by
  unfold recoveredBy
  split <;> simp

/-- A report in the Result Queue leaves the upstream frame. -/
@[simp] theorem placeReport_upstream (n : NestId) (r : UnitRecord) : (placeReport n r s).port.upstream = s.port.upstream := rfl

/-- A slot held for a report leaves the upstream frame. -/
@[simp] theorem reserveSlot_upstream (b : Bool) : (reserveSlot b s).port.upstream = s.port.upstream := rfl

/-- The disposal of a graded unit leaves the upstream frame. -/
theorem disposeGraded_upstream (n : NestId) (r : UnitRecord) (d : Disposition) :
    (disposeGraded n r d s).port.upstream = s.port.upstream := by
  simp [disposeGraded, countGraded]

/-- The disposal of an aborted unit leaves the upstream frame. -/
theorem disposeAborted_upstream (n : NestId) (r : UnitRecord) : (disposeAborted n r s).port.upstream = s.port.upstream := by
  simp [disposeAborted]

/-- A disposal is that of a graded or of an aborted unit. -/
theorem disposeNest_cases {n : NestId} (h : disposeNest s n = some t) :
    (∃ r d, t = disposeGraded n r d s) ∨ ∃ r, t = disposeAborted n r s := by
  unfold disposeNest disposal abortedDisposal at h
  cases hr : reservable s n with
  | none => simp [hr] at h
  | some r =>
    cases hd : r.disposition with
    | none =>
      cases ha : r.abort <;> simp [hr, hd, ha] at h
      exact .inr ⟨r, h.symm⟩
    | some d =>
      simp only [hr, hd, Option.bind_some, Option.map_some, Option.orElse_some, Option.some.injEq] at h
      exact .inl ⟨r, d, h.symm⟩

/-- A disposal reservation leaves the upstream frame. -/
theorem reserveNext_upstream (h : reserveNext s = some t) : t.port.upstream = s.port.upstream := by
  obtain ⟨n, _, hn⟩ := List.exists_of_findSome?_eq_some h
  rcases disposeNest_cases hn with ⟨r, d, rfl⟩ | ⟨r, rfl⟩
  · exact disposeGraded_upstream n r d
  · exact disposeAborted_upstream n r

/-- The leaving of a running mode leaves the upstream frame. -/
@[simp] theorem leaveRunning_upstream (m : Mode) (c : ModeCause) : (leaveRunning m c s).port.upstream = s.port.upstream := by
  simp [leaveRunning]

/-- A run start leaves the upstream frame. -/
@[simp] theorem lotRunStart_upstream : (lotRunStart s).port.upstream = s.port.upstream := by
  unfold lotRunStart
  dsimp only
  split <;> simp

/-- The entry into RUN leaves the upstream frame. -/
@[simp] theorem enterRun_upstream : (enterRun s).port.upstream = s.port.upstream := by
  simp [enterRun]

/-- A debounced edge leaves the upstream frame. -/
theorem debouncedEdge_upstream {i : Input} (h : debouncedEdge i s = some t) : t.port.upstream = s.port.upstream := by
  revert h
  unfold debouncedEdge
  (repeat' split) <;> rintro ⟨⟩
  unfold takeEdge deliverEdge
  dsimp only
  (repeat' split) <;> simp

/-- The holds that a write completes leave the upstream frame. -/
@[simp] theorem completeHolds_upstream : (completeHolds s).port.upstream = s.port.upstream := by
  unfold completeHolds
  refine List.foldlRecOn (motive := fun (t : State) => t.port.upstream = s.port.upstream) _ _ rfl fun t ht i _ => ?_
  rcases attempt_cases (debouncedEdge i) t with ⟨_, stays⟩ | taken
  · rw [stays, ht]
  · rw [debouncedEdge_upstream taken, ht]

/-- A table write leaves the upstream frame. -/
theorem handleWriteTable_upstream (w : TableWrite) : (handleWriteTable w s).1.port.upstream = s.port.upstream := by
  have locked : (writeLocked w s).1.port.upstream = s.port.upstream := by
    unfold writeLocked
    split
    · rfl
    split
    · rfl
    split
    · rfl
    split
    · rfl
    · simp only [accept]
      split <;> simp
  cases w with
  | unknown k => rfl
  | tap i r =>
    simp only [handleWriteTable]
    split <;> rfl
  | _ => exact locked

/-- A command on a set of notice kinds leaves the upstream frame. -/
theorem handleKinds_upstream (kinds : List NoticeArg) (update : List NoticeKind → Port → Port)
    (h : ∀ ks p, (update ks p).upstream = p.upstream) : (handleKinds kinds update s).1.port.upstream = s.port.upstream := by
  unfold handleKinds
  split
  · rfl
  · exact h _ _

/-- Every command leaves the upstream frame, RESET_PART too. -/
theorem handleCommand_upstream (tag : Byte) (c : Command) : (handleCommand tag c s).1.port.upstream = s.port.upstream := by
  cases c
  case writeTable w => exact handleWriteTable_upstream w
  case readTable id i =>
    simp only [handleCommand, handleReadTable]
    split <;> rfl
  case startRun =>
    simp only [handleCommand, handleStartRun]
    (repeat' split) <;> simp [refuse, accept]
  case stopRun =>
    simp only [handleCommand, handleStopRun]
    split <;> simp [refuse, accept]
  case holdSmart =>
    simp only [handleCommand, handleHoldSmart]
    split <;> simp [refuse, accept]
  case holdForce =>
    simp only [handleCommand, handleHoldForce]
    split <;> simp [refuse, accept]
  case resume =>
    simp only [handleCommand, handleResume]
    split <;> simp [refuse, accept]
  case newLot lotId serialPrefix serial =>
    simp only [handleCommand, handleNewLot]
    (repeat' split) <;> simp [refuse, accept, openLot]
  case startUnit nest plan prior =>
    simp only [handleCommand, handleStartUnit]
    (repeat' split) <;> simp [refuse]
  case abortUnit nest =>
    simp only [handleCommand, handleAbortUnit]
    (repeat' split) <;> simp [refuse, accept]
  case clearNestAlert nest =>
    simp only [handleCommand, handleClearNestAlert]
    split <;> rfl
  case clearFault =>
    simp only [handleCommand, handleClearFault]
    split
    · rfl
    · simp only [accept]
      split <;> simp
  case resetPart =>
    simp only [handleCommand, handleResetPart]
    split <;> rfl
  case readNest nest =>
    simp only [handleCommand, handleReadNest]
    split <;> rfl
  case readStatus | readLot | readFaults => rfl
  all_goals exact handleKinds_upstream _ _ fun _ _ => rfl

/-- The handling of a command leaves the upstream frame. -/
theorem takeCommand_upstream (b : Buffered) : (takeCommand b s).port.upstream = s.port.upstream := by
  have handled : (handleRequest b.tag b.request s).1.port.upstream = s.port.upstream := by
    unfold handleRequest
    split
    · rfl
    · rfl
    · exact handleCommand_upstream _ _
  unfold takeCommand reply Port.answer
  split
  · split <;> exact handled
  · exact handled

/-- The arrival of a message leaves the upstream frame. -/
theorem arrive_upstream (b : Buffered) : (arrive b s).port.upstream = s.port.upstream := by
  unfold arrive
  split
  · exact takeCommand_upstream b
  · split <;> rfl

/-- The consequences whose conditions do not read the Station Port leave the upstream frame. -/
theorem portBlind_upstream : ∀ event ∈ portBlind, ∀ s t, event s = some t → t.port.upstream = s.port.upstream := by
  have zero : ∀ n s t, zeroSettle n s = some t → t.port.upstream = s.port.upstream := fun n s t h => by simp [zeroSettle_frame n h]
  have retry : ∀ n s t, retryStart n s = some t → t.port.upstream = s.port.upstream := fun n s t h => by simp [retryStart_frame n h]
  have grade : ∀ n s t, grading n s = some t → t.port.upstream = s.port.upstream := fun n s t h => by simp [grading_frame n h]
  have held : ∀ s t, heldReached s = some t → t.port.upstream = s.port.upstream := fun s t h => by
    unfold heldReached at h
    split at h <;> cases h
    simp
  simp only [portBlind, List.forall_mem_cons]
  exact ⟨fun _ _ h => by simp [permitPass_frame h], fun _ _ h => by simp [quietGrant_frame h],
    fun _ _ h => by simp [loudGatePass_frame h], fun _ _ h => by simp [waitTimerChange_frame h],
    fun _ _ h => by simp [windowClose_frame h], fun _ _ h => by simp [pairGrant_frame h],
    zero 0, zero 1, zero 2, zero 3, retry 0, retry 1, retry 2, retry 3, grade 0, grade 1, grade 2, grade 3,
    fun _ _ h => by simp [figureUnitTake_frame h], fun _ _ h => by simp [markerFrameStart_frame h], held, by simp⟩

/-- The service of the Command Buffer leaves the upstream frame. -/
theorem serve_upstream (h : serve s = some t) : t.port.upstream = s.port.upstream := by
  unfold serve at h
  split at h
  · cases h
  · split at h <;> cases h
    exact takeCommand_upstream _

/-- The waiting reply leaves the upstream frame. -/
theorem waitingReply_upstream (h : waitingReply s = some t) : t.port.upstream = s.port.upstream := by
  unfold waitingReply at h
  split at h
  · split at h <;> cases h
    rfl
  · cases h

/-- The drop report leaves the upstream frame. -/
theorem reportsDropped_upstream (h : reportsDropped s = some t) : t.port.upstream = s.port.upstream := by
  unfold reportsDropped at h
  split at h <;> cases h
  simp

/-- Every consequence leaves the upstream frame. -/
theorem internals_upstream : ∀ event ∈ internals, ∀ s t, event s = some t → t.port.upstream = s.port.upstream := by
  intro event hm s t h
  rcases portBlind_or hm with blind | rfl | rfl | rfl | rfl
  · exact portBlind_upstream event blind s t h
  · exact reserveNext_upstream h
  · exact waitingReply_upstream h
  · exact reportsDropped_upstream h
  · exact serve_upstream h

/-- The end of an event leaves the upstream frame. -/
theorem settle_upstream : (settle s).port.upstream = s.port.upstream :=
  settle_keeps (P := fun t => t.port.upstream = s.port.upstream) (fun event hm u t hu h => (internals_upstream event hm u t h).trans hu) rfl

/-- The end of a downstream message leaves the upstream frame. -/
theorem finishMessage_upstream (bytes : List Byte) : (finishMessage bytes s).port.upstream = s.port.upstream := by
  unfold finishMessage
  split
  · exact settle_upstream.trans (arrive_upstream _)
  · rfl

/-- A downstream lane byte leaves the upstream frame. -/
theorem assembleByte_upstream (b : Byte) : (assembleByte s b).port.upstream = s.port.upstream := by
  unfold assembleByte
  split
  · split <;> rfl
  · rfl
  · split
    · rfl
    · split
      · exact finishMessage_upstream _
      · rfl
  · dsimp only
    split
    · exact finishMessage_upstream _
    · rfl

/-- The downstream frame leaves the upstream frame. -/
theorem takeDownstream_upstream (down : Option DownFrame) : (takeDownstream down s).port.upstream = s.port.upstream := by
  unfold takeDownstream
  split
  · split
    · exact List.foldlRecOn (motive := fun (t : State) => t.port.upstream = s.port.upstream) _ _ rfl
        fun t ht b _ => (assembleByte_upstream b).trans ht
    · rfl
  · rfl

/-- After the exchange the upstream frame is the one composed in it: eight sample slots, status, four lane bytes, and their check. -/
theorem exchange_upstream {samples : List Byte} (h : samples.length = 24) (down : Option DownFrame) (downFirst : Bool) :
    ∃ bytes : List Byte, bytes.length = 29 ∧ (exchange samples down downFirst s).port.upstream = bytes ++ [frameCheck bytes] := by
  have sent : ∀ u, ∃ bytes : List Byte, bytes.length = 29 ∧ (sendUpstream samples u).port.upstream = bytes ++ [frameCheck bytes] :=
    fun u => ⟨_, by simp [h], rfl⟩
  unfold exchange
  split
  · exact sent _
  · rw [takeDownstream_upstream]
    exact sent _

/-! ## The statement -/

/-- Settles O59: with nothing due the frame events are the passing of time, the frame of every block and the exchange; what comes after the
upstream frame in an event leaves it; and its slots, its status byte and its check are read bit by bit. -/
theorem frameEvents : Obligations.FrameEvents := by
  refine ⟨fun f down downFirst s hd => ?_, fun down downFirst s sync => ?_, fun down downFirst s hd lost => ?_, fun k s => rfl,
    fun samples down s => ⟨rfl, rfl⟩, fun f timed s => ⟨rfl, rfl, rfl, fun n => ?_⟩, ?_, fun samples s => rfl, fun f before after =>
    ⟨slotBytes_length f before after, fun k => ?_⟩, fun s => ?_, rfl, ?_⟩
  · simp [exec, execFrameEvent, frameEvent, flush_nothingDue hd]
  · simp [exec, execReferenceFrameEvent, sync]
  · simp [exec, execReferenceFrameEvent, lost, frameEvent, flush_nothingDue hd, zeroFrame]
  · fin_cases n <;> exact ⟨rfl, rfl, rfl, rfl⟩
  · rintro f down downFirst s t ⟨⟩
    rw [settle_upstream]
    exact exchange_upstream (slotBytes_length _ _ _) down downFirst
  · refine ⟨_, _, _, slotBytes_slot f before after k, (sampleBytes_append _).trans ?_⟩
    cases after.tables.taps[k] with
    | micGated n => simp only [tapSample, gates_get]
    | _ => rfl
  · obtain ⟨mode, alert, held, yield, b6, b7⟩ := statusBits s.run.mode (alertHigh s.port) s.permit.held s.lot.yieldLow
    refine ⟨mode.trans ?_, ?_, held, yield, b6, b7⟩
    · cases s.run.mode <;> rfl
    · rw [← alertHigh_iff]
      exact iff_of_eq (congrArg (· = true) alert)
  · intro bytes b
    exact List.foldl_append

end Sys2Proof.Machine
end

section
/-! PROOFS. When a window is open (R42, R44), and what a frame does to the window of a nest (R69 to R72). -/

namespace Sys2Proof.Machine

open Sys2Proof

/-! ## An open window (R42, R44) -/

/-- A judge set that is not empty judges one of the five figures. -/
theorem judgesNothing_eq_false_iff {j : JudgeSet} : judgesNothing j = false ↔
    j.response ≠ none ∨ j.thd ≠ none ∨ j.rub ≠ none ∨ j.crest ≠ none ∨ j.impedance ≠ none := by
  simp only [judgesNothing, judgesMic, judges, judgedMask, Bool.not_eq_false', Bool.or_eq_true, Option.isSome_iff_ne_none, or_assoc]

/-- A window goes on before its M-th frame, and with trim until a wrap frame. -/
theorem windowEnded_eq_false_iff {x : Nest} {st : Step} : windowEnded x st = false ↔
    x.count < st.measure ∨ (st.trim = true ∧ x.synth.wrapped = false) := by
  simp [windowEnded, imp_iff_not_or]

/-- A window is open in MEASURE of a step that judges a figure and has frames of it to come. -/
theorem windowIsOpen_iff {x : Nest} : windowIsOpen x = true ↔
    x.phase = some .measure ∧ ∃ st, x.step = some st ∧ judgesNothing st.judge = false ∧ windowEnded x st = false := by
  unfold windowIsOpen
  split
  · next st hphase hstep => simp [hphase, hstep]
  · next other => simpa using fun hphase st hstep => (other st hphase hstep).elim

/-! ## The frame of a window (R69 to R72) -/

/-- The pair after a window frame, by the channel of its slot. -/
theorem Pair.accumulate_eq (phase : Phase) (mic cur : Sample) (p : Pair) :
    p.accumulate phase mic cur =
      let v := (if p.channel = .mic then mic else cur).toInt
      { p with i := p.i + v * cosineOf 32767 (p.h * phase.toNat), q := p.q + v * sineOf 32767 (p.h * phase.toNat) } := by
  obtain ⟨channel, h, i, q⟩ := p
  cases channel <;> rfl

/-- A frame of MEASURE is counted. -/
theorem frameCount_of_measure {x : Nest} (h : x.phase = some .measure) : frameCount x = x.count + 1 := by
  simp [frameCount, h]

/-- A frame of an open window counts itself and enters the window. -/
theorem Nest.frame_of_open {x : Nest} (h : windowIsOpen x = true) (mic cur : Sample) (marked : Bool) (number : Nat) :
    x.frame mic cur marked number =
      { x.windowFrame mic cur marked number with count := x.count + 1, synth := x.advanceSynth } := by
  rw [Nest.frame, if_pos h, frameCount_of_measure (windowIsOpen_iff.mp h).1]

/-- A frame of a nest with no open window changes its count and its synthesiser alone. -/
theorem Nest.frame_of_not_open {x : Nest} (h : windowIsOpen x = false) (mic cur : Sample) (marked : Bool) (number : Nat) :
    x.frame mic cur marked number = { x with count := frameCount x, synth := x.advanceSynth } := by
  simp [Nest.frame, h]

/-- Each nest after a frame of every block is the nest after its own frame. -/
theorem runFrame_nest (f : InFrame) (timed : Bool) (s : State) (n : NestId) :
    (runFrame f timed s).nest n = nestFrame s f timed s.conv.frameNumber n := by
  fin_cases n <;> rfl

/-! ## The statement -/

/-- Settles O35: a window is open as R42 and R44 say, and by whether it is, the frame of a nest enters its window or leaves it alone. -/
theorem windowFrame : Obligations.WindowFrame := by
  refine ⟨fun x => ?_, fun n f timed s => ⟨fun isOpen => ?_, fun notOpen => ?_⟩⟩
  · simp only [windowIsOpen_iff, judgesNothing_eq_false_iff, windowEnded_eq_false_iff]
  · rw [runFrame_nest, nestFrame, Nest.frame_of_open isOpen]
    exact ⟨rfl, rfl, rfl, (Bool.or_assoc ..).symm, List.map_congr_left fun p _ => p.accumulate_eq _ _ _⟩
  · rw [runFrame_nest, nestFrame, Nest.frame_of_not_open notOpen]
    exact ⟨rfl, rfl, rfl, rfl⟩

end Sys2Proof.Machine
end

section
/-! PROOFS. The arrival of the permit (R53 to R56), its passing conditions (R58) and the out cycle (R57). -/

namespace Sys2Proof.Machine

open Sys2Proof

variable {s : State}

/-! ## The arrival (R54 to R56) -/

/-- Outside the running modes the part is in STANDBY or STOPPED. -/
theorem running_eq_false_iff {m : Mode} : m.running = false ↔ m = .standby ∨ m = .stopped := by
  cases m <;> simp [Mode.running]

/-- A latch that no frame event has followed is no arrival (R54). -/
theorem permitArrival_none (h : (s.permit.latch && s.permit.due) = false) : permitArrival s = none := by
  simp [permitArrival, h]

/-- The permit after the consumption of its latch (R54). -/
def Permit.consume (p : Permit) : Permit := { p with latch := false, due := false }

section
variable (latched : s.permit.latch = true) (due : s.permit.due = true)
include latched due

/-- Role SOLO ignores the arrival (R53). -/
theorem permitArrival_solo (solo : role s = .solo) : permitArrival s = some (s.setPermit s.permit.consume) := by
  simp [permitArrival, latched, due, solo, Permit.consume]

/-- Outside the running modes the arrival is forwarded (R55). -/
theorem permitArrival_forwarded (line : role s ≠ .solo) (idle : s.run.mode.running = false) :
    permitArrival s = some (s.setPermit s.permit.consume.sendPulse) := by
  simp [permitArrival, latched, due, line, idle, Permit.consume]

/-- A running part that holds no permit takes it (R55). -/
theorem permitArrival_taken (line : role s ≠ .solo) (runs : s.run.mode.running = true) (free : s.permit.held = false) :
    permitArrival s = some (s.setPermit s.permit.consume.take) := by
  simp [permitArrival, latched, due, line, runs, free, Permit.consume]

/-- A running part that holds a permit absorbs a second one with PERMIT_DUPLICATE (R56). -/
theorem permitArrival_duplicate (line : role s ≠ .solo) (runs : s.run.mode.running = true) (held : s.permit.held = true) :
    permitArrival s = some (applyStop .permitDuplicate (actionOf s.tables.config.actionDuplicate)
      (recordFault .permitDuplicate .none none none none none (actionOf s.tables.config.actionDuplicate)
        (s.setPermit s.permit.consume))) := by
  simp [permitArrival, latched, due, line, runs, held, Permit.consume]

end

/-- The mode effect of a fault on a part in a running mode: action STOP takes it to STOPPED, and CONTINUE has none (R180). -/
theorem applyStop_of_running (k : FaultKind) (a : Action) (h : s.run.mode.running = true) :
    applyStop k a s = if a = .stop then leaveRunning .stopped (.fault k) s else s := by
  cases a with
  | stop => exact applyStop_running k h
  | continue_ => exact applyStop_continue k

/-- Settles O31: a latch that is not due is no arrival, and one that is due is consumed by role, mode and the permit-held flag. -/
theorem permitArrives : Obligations.PermitArrives := by
  refine ⟨fun s noArrival => ?_, fun s latched due => ?_⟩
  · have stays : happen permitArrival s = s := happen_none (permitArrival_none noArrival)
    exact ⟨congrArg (Host.Outcome.next ∘ setLatch) stays, congrArg _ stays⟩
  · refine congrArg _ (happen_some ?_)
    dsimp only
    split
    · next solo => exact permitArrival_solo latched due solo
    next line =>
    split
    · next idle => exact permitArrival_forwarded latched due line (running_eq_false_iff.mpr idle)
    next notIdle =>
    have runs : s.run.mode.running = true := by simpa [← running_eq_false_iff] using notIdle
    split
    · next free => exact permitArrival_taken latched due line runs free
    · next held =>
      rw [permitArrival_duplicate latched due line runs (by simpa using held), applyStop_of_running _ _ (by simpa using runs)]
      rfl

/-! ## The passing conditions (R58) -/

/-- The passing conditions, written out. -/
theorem passDue_iff : passDue s = true ↔
    s.permit.held = true ∧ s.arbiter.holder = none ∧ (s.arbiter.queue = [] ∨ ∃ t, s.permit.holdTimer = some ⟨t, true⟩) := by
  have expired : s.permit.holdTimer.any Timer.expired = true ↔ ∃ t, s.permit.holdTimer = some ⟨t, true⟩ := by
    rcases s.permit.holdTimer with _ | ⟨t, _ | _⟩ <;> simp
  simp [passDue, expired, and_assoc]

/-- The hold timer of a held permit passes its limit when it reaches it (log entry 24). -/
theorem holdLimitExpiry_some {t : Nat} (held : s.permit.held = true) (timer : s.permit.holdTimer = some ⟨t, false⟩)
    (h : ms s.tables.config.holdLimit ≤ t) :
    holdLimitExpiry s = some (s.setPermit { s.permit with holdTimer := some ⟨t, true⟩ }) := by
  simp [holdLimitExpiry, held, timer, timerDue_of_le h]

/-! ## The out cycle (R57) -/

/-- A pass starts a pulse when the cycle is idle, and is pending otherwise. -/
theorem Permit.sendPulse_eq (p : Permit) :
    p.sendPulse = if p.cycle = .idle then { p with cycle := .pulse 0 } else { p with pendingOut := true } := by
  unfold sendPulse
  split <;> simp_all

/-- PERMIT_OUT is high in a pulse. -/
theorem permitOut_iff {p : Permit} : permitOut p = true ↔ ∃ k, p.cycle = .pulse k := by
  unfold permitOut
  split <;> simp_all

/-- A pulse ends after two frames. -/
theorem permitPulseEnd_of_pulse {k : Nat} (h : s.permit.cycle = .pulse k) :
    permitPulseEnd s = if 2 ≤ k then some (s.setPermit { s.permit with cycle := .gap 0 }) else none := by
  simp only [permitPulseEnd, h]
  rfl

/-- A gap ends after two frames, and a pending pulse starts at once. -/
theorem permitGapEnd_of_gap {k : Nat} (h : s.permit.cycle = .gap k) :
    permitGapEnd s = if 2 ≤ k then some (s.setPermit
      { s.permit with cycle := (if s.permit.pendingOut then .pulse 0 else .idle), pendingOut := false }) else none := by
  simp only [permitGapEnd, h]
  rfl

/-- An event under a condition of its own is taken when it holds, and leaves the state as it is otherwise (log entry 8). -/
theorem happen_ite {event : State → Option State} {c : Prop} [Decidable c] {t : State} (h : event s = if c then some t else none) :
    happen event s = if c then settle t else s := by
  split_ifs at h ⊢
  · exact happen_some h
  · exact happen_none h

/-- Settles O32: a pass by the passing conditions, and the out cycle through pulse and gap, each of two frames. -/
theorem permitPassesAndOutCycle : Obligations.PermitPassesAndOutCycle := by
  refine ⟨Permit.sendPulse_eq, fun _ => permitOut_iff, fun f timed s => ?_, fun k s pulse => ?_, fun k s gap => ?_,
    fun t s held timer reached => ?_, fun s => ?_⟩
  · cases h : s.permit.cycle <;> simp [runFrame, Permit.frame, OutCycle.frame, h]
  · exact congrArg _ (happen_ite (permitPulseEnd_of_pulse pulse))
  · exact congrArg _ (happen_ite (permitGapEnd_of_gap gap))
  · exact congrArg _ (happen_some (holdLimitExpiry_some held timer reached))
  · dsimp only
    rw [← passDue_iff]
    exact ⟨fun passing => if_pos passing, fun stays => if_neg stays⟩

end Sys2Proof.Machine
end

section
/-! PROOFS. The limit of a curve at a code (R114), found by walking to the last breakpoint at or before the code, and the comparison of a
value with its limits (R115). -/

namespace Sys2Proof.Machine

open Sys2Proof

/-! ## The limit of a curve (R114) -/

/-- At the first breakpoint's code and below it the first limit applies. -/
theorem limitAt_of_le_first {p : Int × Option Int} {rest : List (Int × Option Int)} {c : Int} (h : c ≤ p.1) :
    limitAt (p :: rest) c = p.2 := by
  cases rest with
  | nil => rfl
  | cons q rest => exact if_pos h

/-- Strictly between the first two breakpoints the limit is interpolated, or absent with either of them. -/
theorem limitAt_of_between {p q : Int × Option Int} {rest : List (Int × Option Int)} {c : Int} (hp : p.1 < c) (hq : c < q.1) :
    limitAt (p :: q :: rest) c =
      match p.2, q.2 with
      | some x, some y => some (x + roundDiv ((c - p.1) * (y - x)) (q.1 - p.1).toNat)
      | _, _ => none :=
  (if_neg (not_le.mpr hp)).trans (if_pos hq)

/-- From the second breakpoint's code on the first breakpoint has no part in the limit. -/
theorem limitAt_of_second_le {p q : Int × Option Int} {rest : List (Int × Option Int)} {c : Int} (hpq : p.1 < q.1) (hq : q.1 ≤ c) :
    limitAt (p :: q :: rest) c = limitAt (q :: rest) c :=
  (if_neg (not_le.mpr (hpq.trans_le hq))).trans (if_neg (not_lt.mpr hq))

/-- From a breakpoint's code on the breakpoints before it have no part in the limit. -/
theorem limitAt_append {p : Int × Option Int} {rest : List (Int × Option Int)} {c : Int} (hp : p.1 ≤ c) :
    ∀ front : List (Int × Option Int), ((front ++ p :: rest).map (·.1)).Pairwise (· < ·) →
      limitAt (front ++ p :: rest) c = limitAt (p :: rest) c
  | [], _ => rfl
  | [q], rising => limitAt_of_second_le ((List.pairwise_cons.mp rising).1 p.1 (by simp)) hp
  | q :: r :: front, rising => by
    have inner := limitAt_append hp (r :: front) (List.pairwise_cons.mp rising).2
    have first : q.1 < r.1 := (List.pairwise_cons.mp rising).1 r.1 (by simp)
    have second : r.1 < p.1 := (List.pairwise_cons.mp (List.pairwise_cons.mp rising).2).1 p.1 (by simp)
    exact (limitAt_of_second_le first (second.le.trans hp)).trans inner

/-- Settles O42: the walk stops at the last breakpoint at or before the code, whose limit applies there, beyond the last one, and up to the
next one with it. -/
theorem limitInterpolation : Obligations.LimitInterpolation := by
  intro points rising
  refine ⟨?before, ?beyond, ?atPoint, ?between⟩
  case before =>
    rintro first rest c rfl h
    exact limitAt_of_le_first h
  case beyond =>
    rintro front last c rfl h
    exact limitAt_append h front rising
  case atPoint =>
    intro p hp
    obtain ⟨front, rest, rfl⟩ := List.append_of_mem hp
    exact (limitAt_append le_rfl front rising).trans (limitAt_of_le_first le_rfl)
  case between =>
    rintro front a b rest c rfl ha hb
    exact (limitAt_append ha.le front rising).trans (limitAt_of_between ha hb)

/-! ## The outcome of a value (R115) -/

/-- A value above its upper limit is HIGH, whatever the lower limit. -/
theorem compareLimits_high {value u : Int} (h : u < value) (lower : Option Int) :
    compareLimits value (some u) lower = (.high, some u) := by
  cases lower <;> exact if_pos h

/-- A value below its lower limit is LOW where the upper limit does not make it HIGH. -/
theorem compareLimits_low {value l : Int} {upper : Option Int} (hu : ∀ u, upper = some u → value ≤ u) (h : value < l) :
    compareLimits value upper (some l) = (.low, some l) := by
  cases upper with
  | none => exact if_pos h
  | some u => exact (if_neg (not_lt.mpr (hu u rfl))).trans (if_pos h)

/-- A value that neither limit stops is a PASS, recorded with the upper limit before the lower one. -/
theorem compareLimits_pass {value : Int} {upper lower : Option Int} (hu : ∀ u, upper = some u → value ≤ u)
    (hl : ∀ l, lower = some l → l ≤ value) : compareLimits value upper lower = (.pass, upper.or lower) := by
  cases upper with
  | none =>
    cases lower with
    | none => rfl
    | some l => exact if_neg (not_lt.mpr (hl l rfl))
  | some u =>
    have notHigh : ¬u < value := not_lt.mpr (hu u rfl)
    cases lower with
    | none => exact if_neg notHigh
    | some l => exact (if_neg notHigh).trans (if_neg (not_lt.mpr (hl l rfl)))

/-- Settles O43: the upper limit is tested first, then the lower one, and equality with either passes. -/
theorem limitComparison : Obligations.LimitComparison := by
  refine fun value upper lower => ⟨?high, fun notHigh => ⟨?low, fun notLow => ?pass⟩⟩
  case high =>
    rintro u rfl h
    exact compareLimits_high h lower
  case low =>
    rintro l rfl h
    exact compareLimits_low notHigh h
  case pass =>
    rw [compareLimits_pass notHigh notLow]
    cases upper <;> rfl

end Sys2Proof.Machine
end

section
/-! PROOFS. The induction over the table for a property that the count of a frame keeps only once what is due has been taken (log entries 6
and 23). -/

namespace Sys2Proof.Machine

open Sys2Proof

variable {P : State → Prop}

/-- What a frame period keeps once the due events are taken, a time without frame events keeps. -/
theorem lapse_keeps (period : ∀ s, P s → P (tick 1 (flush s))) : ∀ (n : Nat) {s : State}, P s → P (lapse n s)
  | 0, _, hs => hs
  | n + 1, _, hs => lapse_keeps period n (period _ hs)

/-- What the operations keep, and a frame period and a frame keep once the due events are taken, every row keeps. -/
theorem KeptWithin.exec_keeps_after_flush (k : KeptWithin P) (period : ∀ s, P s → P (tick 1 (flush s)))
    (frame : ∀ f timed s, P s → P (runFrame f timed (tick 1 (flush s)))) {s t : State}
    (i : Instr) (hs : P s) (h : exec i s = .next t) : P t := by
  have due : ∀ {event : State → Option State}, event ∈ dueEvents → P (happen event s) :=
    fun hm => k.happens (fun a b => k.due _ hm a b) hs
  have consequence : ∀ {event : State → Option State}, event ∈ internals → P (happen event s) :=
    fun hm => k.happens (fun a b => k.consequence _ hm a b) hs
  have frames : ∀ f timed down downFirst, P (settle (frameEvent f timed down downFirst s)) :=
    fun f timed down downFirst => k.settles (k.exchanges _ down downFirst (frame f timed s hs))
  cases i <;> cases h
  case powerOn l => exact k.powerOn l _
  case inputHoldStart i b => exact k.level i b _ (due (debouncedEdge_due i))
  case debouncedEdge i => exact due (debouncedEdge_due i)
  case frameEvent f down downFirst => exact frames f false down downFirst
  case referenceFrameEvent down downFirst =>
    split
    · exact hs
    · exact frames zeroFrame true down downFirst
  case converterSyncLost =>
    split
    · exact k.settles (k.loss _ (lapse_keeps period _ hs))
    · exact hs
  case permitInRise => exact k.latch _ (due (by simp [dueEvents]))
  case settleEnd n | windowOpen n | lastWindowFrame n | windowlessStepEnd n | disposalStall n =>
    exact due (by fin_cases n <;> simp [dueEvents])
  case permitArrival | permitPulseEnd | permitGapEnd | holdLimitExpiry | permitTimeout | guardBlockEnd | replyTimeout =>
    exact due (by simp [dueEvents])
  case retryStart n | grading n => exact consequence (by fin_cases n <;> simp [internals])
  case quietGrant | loudGatePass | pairGrant | windowClose | figureUnitTake | markerFrameStart =>
    exact consequence (by simp [internals])
  case heldReached | waitingReply | reportsDropped => exact consequence (by simp [internals])
  case figureUnitCompletion => exact k.happens k.completion hs
  case validationCompletion => exact k.happens k.validated hs
  case disposal n => exact k.happens (k.graded n) hs
  case abortedDisposal n => exact k.happens (k.aborted n) hs
  case sendCompletion => exact k.happens k.sent hs
  case ack => rw [receiveLine_ack]; exact k.happens k.ack hs
  case nak => rw [receiveLine_nak]; exact k.happens k.nak hs
  all_goals exact k.settles (k.arrive _ s hs)

end Sys2Proof.Machine
end

section
/-! PROOFS. The record in computation: the events that leave it as it is, and the bound of its frame events, which the due events hold
before each frame (R99, log entry 23). -/

namespace Sys2Proof.Machine

open Sys2Proof

variable {s t : State}

/-! ## What leaves the record in computation as it is (R98 to R101) -/

/-- The close of a window leaves the record in computation. -/
@[simp] theorem closeWindow_computing (n : NestId) : (closeWindow n s).store.computing = s.store.computing := by
  rcases closeWindow_store (s := s) n with ⟨r, st, _, _, taken⟩ | left
  · rw [taken]; rfl
  · rw [left]

/-- An abort leaves the record in computation, of whatever nest it is (R20, R101). -/
@[simp] theorem abortUnit_computing (n : NestId) (reason : AbortReason) :
    (abortUnit n reason s).store.computing = s.store.computing := by
  rcases abortUnit_store (s := s) n reason with same | dropped
  · rw [same]
  · rw [dropped]; rfl

/-- The aborts of a mode event leave the record in computation. -/
@[simp] theorem abortAll_computing (reason : AbortReason) : (abortAll reason s).store.computing = s.store.computing := by
  simp [abortAll, nestIds]

/-- The leaving of a running mode leaves the record in computation. -/
@[simp] theorem leaveRunning_computing (m : Mode) (c : ModeCause) : (leaveRunning m c s).store.computing = s.store.computing := by
  simp [leaveRunning]

/-- The mode effect of a fault leaves the record in computation. -/
@[simp] theorem applyStop_computing (k : FaultKind) (a : Action) : (applyStop k a s).store.computing = s.store.computing := by
  unfold applyStop
  split <;> simp

/-- A failure on the marker line leaves the record in computation. -/
@[simp] theorem markerFailure_computing (f : MarkerFailure) : (markerFailure f s).store.computing = s.store.computing := by
  unfold markerFailure
  split <;> simp [raiseMarkerFault]

/-- The taint of declared blocks leaves the record in computation. -/
@[simp] theorem declareBlocks_computing (b k : Nat) (id : StreamId) (first : Option Nat) :
    (declareBlocks b k id first s).store.computing = s.store.computing := by
  unfold declareBlocks
  split <;> rfl

/-- A WINDOW_CLOSE leaves the record in computation. -/
theorem windowClose_computing (h : windowClose s = some t) : t.store.computing = s.store.computing := by
  unfold windowClose at h
  (repeat' split at h) <;> cases h
  simp

/-- A LAST_WINDOW_FRAME leaves the record in computation. -/
theorem lastWindowFrame_computing {n : NestId} (h : lastWindowFrame n s = some t) : t.store.computing = s.store.computing := by
  unfold lastWindowFrame at h
  (repeat' split at h) <;> cases h <;> simp

/-- A guard block's end leaves the record in computation. -/
theorem guardBlockEnd_computing (h : guardBlockEnd s = some t) : t.store.computing = s.store.computing := by
  unfold guardBlockEnd at h
  split at h <;> cases h
  simp [endGuardBlock, Store.release]

/-- The arrival of the permit leaves the record in computation. -/
theorem permitArrival_computing (h : permitArrival s = some t) : t.store.computing = s.store.computing := by
  unfold permitArrival at h
  (repeat' split at h) <;> cases h <;> simp

/-- A PERMIT_TIMEOUT leaves the record in computation. -/
theorem permitTimeout_computing (h : permitTimeout s = some t) : t.store.computing = s.store.computing := by
  unfold permitTimeout at h
  dsimp only at h
  (repeat' split at h) <;> cases h <;> simp

/-- A DISPOSAL_STALL leaves the record in computation. -/
theorem disposalStall_computing {n : NestId} (h : disposalStall n s = some t) : t.store.computing = s.store.computing := by
  unfold disposalStall at h
  (repeat' split at h) <;> cases h
  simp

/-- A disposal reservation leaves the record in computation. -/
theorem reserveNext_computing (h : reserveNext s = some t) : t.store.computing = s.store.computing := by
  obtain ⟨n, _, hn⟩ := List.exists_of_findSome?_eq_some h
  rcases disposeNest_cases hn with ⟨r, d, rfl⟩ | ⟨r, rfl⟩ <;> simp

/-- The disposal of a graded unit leaves the record in computation. -/
theorem disposal_computing {n : NestId} (h : disposal n s = some t) : t.store.computing = s.store.computing := by
  obtain ⟨r, _, hd⟩ := Option.bind_eq_some_iff.mp h
  obtain ⟨d, _, rfl⟩ := Option.map_eq_some_iff.mp hd
  simp

/-- The disposal of an aborted unit leaves the record in computation. -/
theorem abortedDisposal_computing {n : NestId} (h : abortedDisposal n s = some t) : t.store.computing = s.store.computing := by
  obtain ⟨r, _, hr⟩ := Option.bind_eq_some_iff.mp h
  split at hr <;> cases hr
  simp

/-- A NAK leaves the record in computation. -/
theorem takeNak_computing (h : takeNak s = some t) : t.store.computing = s.store.computing := by
  unfold takeNak at h
  split at h <;> cases h
  simp

/-- A REPLY_TIMEOUT leaves the record in computation. -/
theorem replyTimeout_computing (h : replyTimeout s = some t) : t.store.computing = s.store.computing := by
  unfold replyTimeout at h
  split at h <;> cases h
  simp

/-- A debounced edge leaves the record in computation. -/
theorem debouncedEdge_computing {i : Input} (h : debouncedEdge i s = some t) : t.store.computing = s.store.computing := by
  revert h
  unfold debouncedEdge
  (repeat' split) <;> rintro ⟨⟩
  unfold takeEdge deliverEdge presentFall clampFall
  dsimp only
  (repeat' split) <;> simp

/-- The holds that a write completes leave the record in computation. -/
@[simp] theorem completeHolds_computing : (completeHolds s).store.computing = s.store.computing := by
  unfold completeHolds
  refine List.foldlRecOn (motive := fun (t : State) => t.store.computing = s.store.computing) _ _ rfl fun t ht i _ => ?_
  rcases attempt_cases (debouncedEdge i) t with ⟨_, stays⟩ | taken
  · rw [stays, ht]
  · rw [debouncedEdge_computing taken, ht]

/-- A reply leaves the Window Store. -/
@[simp] theorem reply_store (tag : Byte) (a : State × Answer) : (reply tag a).store = a.1.store := by
  unfold reply
  split <;> rfl

/-- The completion of a validation leaves the Window Store. -/
theorem validationCompletion_store (h : validationCompletion s = some t) : t.store = s.store := by
  unfold validationCompletion at h
  split at h
  · cases h
  · split at h <;> cases h
    · simp
    · split <;> simp [accept, refuse]

/-- The completion of a validation at its bound leaves the Window Store. -/
theorem validationOverdue_store (h : validationOverdue s = some t) : t.store = s.store := by
  unfold validationOverdue at h
  split at h
  · exact validationCompletion_store h
  · cases h

/-- The completion of the Figure Unit leaves no record in computation (R100, R101). -/
theorem figureUnitCompletion_computing (h : figureUnitCompletion s = some t) : t.store.computing = none := by
  revert h
  unfold figureUnitCompletion
  (repeat' split) <;> rintro ⟨⟩ <;> rfl

/-- A table write leaves the record in computation. -/
theorem handleWriteTable_computing (w : TableWrite) : (handleWriteTable w s).1.store.computing = s.store.computing := by
  have locked : (writeLocked w s).1.store.computing = s.store.computing := by
    unfold writeLocked
    (repeat' split) <;> simp [refuse, accept]
  cases w with
  | unknown k => rfl
  | tap i r =>
    simp only [handleWriteTable]
    split <;> rfl
  | _ => exact locked

/-- RESET_PART empties the Figure Unit, and every other command leaves the record in computation (R184). -/
theorem handleCommand_computing (tag : Byte) (c : Command) :
    (handleCommand tag c s).1.store.computing = s.store.computing ∨ (handleCommand tag c s).1.store.computing = none := by
  cases c
  case resetPart =>
    simp only [handleCommand, handleResetPart]
    split
    · exact .inr rfl
    · exact .inl rfl
  all_goals left
  case writeTable w => exact handleWriteTable_computing w
  case stopRun | holdSmart | holdForce | resume =>
    simp only [handleCommand, handleStopRun, handleHoldSmart, handleHoldForce, handleResume]
    split <;> simp [refuse, accept]
  case startRun | newLot | startUnit | abortUnit =>
    simp only [handleCommand, handleStartRun, handleNewLot, handleStartUnit, handleAbortUnit]
    (repeat' split) <;> simp [refuse, accept]
  case clearFault =>
    simp only [handleCommand, handleClearFault]
    split
    · rfl
    · simp only [accept]
      split <;> simp
  case readTable | clearNestAlert | readNest =>
    simp only [handleCommand, handleReadTable, handleClearNestAlert, handleReadNest]
    split <;> rfl
  case readStatus | readLot | readFaults => rfl
  all_goals
    simp only [handleCommand, handleSetNotices, handleClearNotices, handleSetAlerts, handleClearAlerts, handleAckAlerts, handleKinds]
    split <;> rfl

/-! ## A bound on the frames of a computation (R99) -/

/-- The record in computation, if there is one, has lasted at most `k` frame events. -/
def ComputesWithin (k : Nat) (s : State) : Prop := ∀ c, s.store.computing = some c → c.frames ≤ k

variable {k : Nat}

/-- What leaves the record in computation keeps the bound. -/
theorem ComputesWithin.of_eq (hs : ComputesWithin k s) (h : t.store.computing = s.store.computing) : ComputesWithin k t :=
  fun c hc => hs c (h ▸ hc)

/-- An idle Figure Unit meets every bound. -/
theorem ComputesWithin.of_idle (h : s.store.computing = none) : ComputesWithin k s := by
  intro c hc
  simp [h] at hc

/-- A record just taken has lasted no frame event (R98). -/
theorem figureUnitTake_within (h : figureUnitTake s = some t) : ComputesWithin k t := by
  revert h
  unfold figureUnitTake
  split <;> rintro ⟨⟩
  rintro c ⟨⟩
  exact Nat.zero_le k

/-- The handling of a command keeps the bound. -/
theorem takeCommand_within (b : Buffered) (hs : ComputesWithin k s) : ComputesWithin k (takeCommand b s) := by
  have handled : ComputesWithin k (handleRequest b.tag b.request s).1 := by
    unfold handleRequest
    split
    · exact hs
    · exact hs
    · exact (handleCommand_computing b.tag _).elim hs.of_eq .of_idle
  exact handled.of_eq (by rw [takeCommand, reply_store])

/-- The arrival of a message keeps the bound. -/
theorem arrive_within (b : Buffered) (hs : ComputesWithin k s) : ComputesWithin k (arrive b s) := by
  unfold arrive
  split
  · exact takeCommand_within b hs
  · split <;> exact hs

/-- The service of the Command Buffer keeps the bound. -/
theorem serve_within (hs : ComputesWithin k s) (h : serve s = some t) : ComputesWithin k t := by
  unfold serve at h
  (repeat' split at h) <;> cases h
  exact takeCommand_within _ hs

/-- The completion of the Figure Unit keeps every bound. -/
theorem figureUnitCompletion_within (h : figureUnitCompletion s = some t) : ComputesWithin k t :=
  .of_idle (figureUnitCompletion_computing h)

/-- The completion at the bound keeps every bound. -/
theorem computationOverdue_within (h : computationOverdue s = some t) : ComputesWithin k t := by
  unfold computationOverdue at h
  split at h
  · exact figureUnitCompletion_within h
  · cases h

/-- An event that leaves the record in computation keeps the bound. -/
theorem within_of_leaves {event : State → Option State} (h : ∀ {s t}, event s = some t → t.store.computing = s.store.computing) :
    ∀ s t, ComputesWithin k s → event s = some t → ComputesWithin k t :=
  fun _ _ hs taken => hs.of_eq (h taken)

/-- Every consequence of an event keeps the bound. -/
theorem internals_within : ∀ event ∈ internals, ∀ s t, ComputesWithin k s → event s = some t → ComputesWithin k t := by
  have zero (n : NestId) : ∀ s t, ComputesWithin k s → zeroSettle n s = some t → ComputesWithin k t :=
    within_of_leaves fun h => by simp [zeroSettle_frame n h]
  have retry (n : NestId) : ∀ s t, ComputesWithin k s → retryStart n s = some t → ComputesWithin k t :=
    within_of_leaves fun h => by simp [retryStart_frame n h]
  have grade (n : NestId) : ∀ s t, ComputesWithin k s → grading n s = some t → ComputesWithin k t :=
    within_of_leaves fun h => by simp [grading_frame n h]
  simp only [internals, List.forall_mem_cons]
  exact ⟨within_of_leaves fun h => by simp [permitPass_frame h], within_of_leaves fun h => by simp [quietGrant_frame h],
    within_of_leaves fun h => by simp [loudGatePass_frame h], within_of_leaves fun h => by simp [waitTimerChange_frame h],
    within_of_leaves windowClose_computing, within_of_leaves fun h => by simp [pairGrant_frame h],
    zero 0, zero 1, zero 2, zero 3, retry 0, retry 1, retry 2, retry 3, grade 0, grade 1, grade 2, grade 3,
    fun _ _ _ taken => figureUnitTake_within taken, within_of_leaves reserveNext_computing,
    within_of_leaves fun h => by simp [markerFrameStart_frame h], within_of_leaves fun h => by simp [waitingReply_frame h],
    within_of_leaves fun h => by simp [reportsDropped_frame h], within_of_leaves fun h => by simp [heldReached_frame h],
    fun _ _ hs served => serve_within hs served, by simp⟩

/-- Every due event keeps the bound. -/
theorem dueEvents_within : ∀ event ∈ dueEvents, ∀ s t, ComputesWithin k s → event s = some t → ComputesWithin k t := by
  have settled (n : NestId) : ∀ s t, ComputesWithin k s → settleEnd n s = some t → ComputesWithin k t :=
    within_of_leaves fun h => by simp [settleEnd_frame n h]
  have opened (n : NestId) : ∀ s t, ComputesWithin k s → windowOpen n s = some t → ComputesWithin k t :=
    within_of_leaves fun h => by simp [windowOpen_frame n h]
  have last (n : NestId) : ∀ s t, ComputesWithin k s → lastWindowFrame n s = some t → ComputesWithin k t :=
    within_of_leaves lastWindowFrame_computing
  have windowless (n : NestId) : ∀ s t, ComputesWithin k s → windowlessStepEnd n s = some t → ComputesWithin k t :=
    within_of_leaves fun h => by simp [windowlessStepEnd_frame n h]
  have stall (n : NestId) : ∀ s t, ComputesWithin k s → disposalStall n s = some t → ComputesWithin k t :=
    within_of_leaves disposalStall_computing
  have edges : ∀ event ∈ allInputs.map debouncedEdge, ∀ s t, ComputesWithin k s → event s = some t → ComputesWithin k t :=
    List.forall_mem_map.mpr fun i _ => within_of_leaves debouncedEdge_computing
  simp only [dueEvents, List.forall_mem_append, List.forall_mem_cons]
  exact ⟨⟨fun _ _ _ h => computationOverdue_within h, within_of_leaves fun h => by simp [validationOverdue_store h],
    settled 0, opened 0, last 0, windowless 0, settled 1, opened 1, last 1, windowless 1,
    settled 2, opened 2, last 2, windowless 2, settled 3, opened 3, last 3, windowless 3,
    within_of_leaves guardBlockEnd_computing, within_of_leaves permitArrival_computing,
    within_of_leaves fun h => by simp [permitPulseEnd_frame h], within_of_leaves fun h => by simp [permitGapEnd_frame h],
    within_of_leaves fun h => by simp [holdLimitExpiry_frame h], within_of_leaves permitTimeout_computing,
    stall 0, stall 1, stall 2, stall 3, within_of_leaves replyTimeout_computing, by simp⟩, edges⟩

/-- The operations of every row keep the bound; only the count of a frame does not. -/
theorem computesWithin_kept (k : Nat) : KeptWithin (ComputesWithin k) where
  powerOn _ _ := .of_idle rfl
  pending _ _ hs := hs
  consequence := internals_within
  due := dueEvents_within
  completion _ _ _ h := figureUnitCompletion_within h
  validated := within_of_leaves fun h => by rw [validationCompletion_store h]
  graded _ := within_of_leaves disposal_computing
  aborted _ := within_of_leaves abortedDisposal_computing
  sent := within_of_leaves fun h => by simp [sendCompletion_frame h]
  ack := within_of_leaves fun h => by simp [takeAck_frame h]
  nak := within_of_leaves takeNak_computing
  level _ _ _ hs := hs
  latch _ hs := hs
  loss _ hs := hs.of_eq (by simp [declareLoss])
  leave _ _ _ _ hs := hs
  sending _ _ hs := hs
  upstream _ _ hs := hs
  assembly _ _ hs := hs
  holdOff _ _ hs := hs
  badMessage _ hs := hs
  badFrame _ hs := hs
  arrive b _ hs := arrive_within b hs

/-! ## The bound before a frame (R99, log entry 23) -/

/-- Below 48 frame events no completion is due. -/
theorem computationOverdue_of_lt {c : Computation} (h : s.store.computing = some c) (early : c.frames < 48) :
    computationOverdue s = none := by
  have notDue : ¬Config.computeFrames ≤ c.frames := not_le.mpr early
  simp [computationOverdue, h, notDue]

/-- From the 48th frame event on the completion is due. -/
theorem computationOverdue_of_le {c : Computation} (h : s.store.computing = some c) (late : 48 ≤ c.frames) :
    computationOverdue s = figureUnitCompletion s := by
  have due : Config.computeFrames ≤ c.frames := late
  simp [computationOverdue, h, due]

/-- With a record in computation there is a completion. -/
theorem figureUnitCompletion_isSome {c : Computation} (h : s.store.computing = some c) : ∃ t, figureUnitCompletion s = some t := by
  unfold figureUnitCompletion
  rw [h]
  dsimp only
  split <;> exact ⟨_, rfl⟩

/-- The bound's own event, which is the first of the due events, leaves no computation of 48 frame events. -/
theorem happen_computationOverdue_within : ComputesWithin 47 (happen computationOverdue s) := by
  cases hc : s.store.computing with
  | none =>
    have idle : computationOverdue s = none := by simp [computationOverdue, hc]
    rw [happen_none idle]
    exact .of_idle hc
  | some c =>
    by_cases early : c.frames < 48
    · rw [happen_none (computationOverdue_of_lt hc early)]
      rintro d hd
      rw [hc] at hd
      cases hd
      exact Nat.le_of_lt_succ early
    · obtain ⟨t, ht⟩ := figureUnitCompletion_isSome hc
      rw [happen_some ((computationOverdue_of_le hc (not_lt.mp early)).trans ht)]
      exact (computesWithin_kept 47).settles (figureUnitCompletion_within ht)

/-- Before a frame no computation has lasted 48 frame events. -/
theorem flush_within : ComputesWithin 47 (flush s) := by
  have first : dueEvents = computationOverdue :: dueEvents.tail := rfl
  rw [flush, first, List.foldl_cons]
  refine List.foldlRecOn (motive := ComputesWithin 47) dueEvents.tail _ happen_computationOverdue_within fun u hu event hm => ?_
  exact (computesWithin_kept 47).happens (dueEvents_within event (List.mem_of_mem_tail hm)) hu

/-- The passing of time leaves the Window Store. -/
@[simp] theorem tick_store (j : Nat) : (tick j s).store = s.store := rfl

/-- A frame counts for the record in computation. -/
theorem runFrame_within (f : InFrame) (timed : Bool) (hs : ComputesWithin k s) : ComputesWithin (k + 1) (runFrame f timed s) := by
  intro c hc
  obtain ⟨d, hd, rfl⟩ := Option.map_eq_some_iff.mp hc
  exact Nat.succ_le_succ (hs d hd)

/-- No row of the table lets a computation last longer than 48 frame events. -/
theorem exec_computesWithin (i : Instr) (hs : ComputesWithin 48 s) (h : exec i s = .next t) : ComputesWithin 48 t := by
  refine (computesWithin_kept 48).exec_keeps_after_flush (fun u hu => ?_) (fun f timed u _ => ?_) i hs h
  · exact ((computesWithin_kept 48).flushes hu).of_eq (by rw [tick_store])
  · have before : ComputesWithin 47 (tick 1 (flush u)) := flush_within.of_eq (by rw [tick_store])
    exact runFrame_within f timed before

end Sys2Proof.Machine
end

section
/-! PROOFS. FIGURE_UNIT_TAKE and FIGURE_UNIT_COMPLETION (R98 to R101): the Unit Record after a completion, its STEP_REPORT (R119, R120), and
the three ends of a computation. -/

namespace Sys2Proof.Machine

open Sys2Proof

variable {s : State}

/-! ## The Unit Record and the STEP_REPORT of a completion (R100, R119, R120) -/

/-- A completion enters the findings, appends the key that a tainted record has admitted, and lowers the pending-window count. -/
theorem UnitRecord.complete_eq (r : UnitRecord) (budget : Nat) (w : WindowRecord) (fs : List Finding) :
    r.complete budget w fs =
      let entered := r.enterRun w.retryRun w.segment w.step fs
      { entered with
        retryList :=
          if w.taint ≠ .none ∧ entered.admitsKey budget ⟨w.segment, w.step⟩ = true then entered.retryList ++ [⟨w.segment, w.step⟩]
          else entered.retryList
        pending := entered.pending - 1 } := by
  by_cases clean : w.taint = .none
  · simp [complete, clean]
  · by_cases admitted : (r.enterRun w.retryRun w.segment w.step fs).admitsKey budget ⟨w.segment, w.step⟩ = true
    · simp [complete, clean, offerKey, admitted]
    · simp [complete, clean, offerKey, admitted]

/-- A nest's setting asks for every report, or for those with a finding that is no PASS (R119). -/
theorem wantsReport_iff {rule : ReportRule} {fs : List Finding} :
    wantsReport rule fs = true ↔ rule = .all ∨ (rule = .fails ∧ ∃ f ∈ fs, f.outcome ≠ .pass) := by
  cases rule <;> simp [wantsReport]

/-- The fundamental's level of a channel, where the record holds it. -/
theorem fundamentalLevel_eq (w : WindowRecord) (c : Channel) :
    fundamentalLevel w c = (w.sums.find? fun p => decide (p.channel = c ∧ p.h = 1)).map fun p => amplitudeLevel p w.mEff := by
  simp only [fundamentalLevel, fundamental, Bool.decide_and]

/-! ## The ends of a computation (R98, R100, R101) -/

/-- The idle Figure Unit takes the head of the Judge Queue. -/
theorem figureUnitTake_of_idle {w : WindowRecord} {rest : List WindowRecord} (idle : s.store.computing = none)
    (head : s.store.judgeQueue = w :: rest) :
    figureUnitTake s = some (s.setStore { s.store with judgeQueue := rest, computing := some ⟨w, 0⟩ }) := by
  simp [figureUnitTake, idle, head]

section
variable {c : Computation} (computing : s.store.computing = some c)
include computing

/-- A record whose nest holds no unit is freed and nothing else. -/
theorem figureUnitCompletion_of_no_unit (gone : (s.nest c.record.nest).record = none) :
    figureUnitCompletion s = some (freeComputed s) := by
  simp [figureUnitCompletion, computing, gone]

variable {r : UnitRecord} (unit : (s.nest c.record.nest).record = some r)
include unit

/-- A record of an aborted unit is freed, and its window counted off. -/
theorem figureUnitCompletion_of_aborted (aborted : r.abort.isSome = true) :
    figureUnitCompletion s = some ((freeComputed s).setNest c.record.nest
      { s.nest c.record.nest with record := some { r with pending := r.pending - 1 } }) := by
  simp only [figureUnitCompletion, computing, unit, aborted, if_true, discardRecord, State.modRecord_some _ unit]
  rfl

/-- A record of a unit that is not aborted is judged. -/
theorem figureUnitCompletion_of_tested (tested : r.abort = none) :
    figureUnitCompletion s = some (judgeRecord r c.record s) := by
  simp [figureUnitCompletion, computing, unit, tested]

end

/-- The judgement of a record: the Unit Record completed, the record freed, and the STEP_REPORT offered where it is asked for. -/
theorem judgeRecord_eq {r : UnitRecord} {w : WindowRecord} (unit : (s.nest w.nest).record = some r) :
    judgeRecord r w s =
      let budget := (planAt s.tables r.plan).budget
      let fs := recordFindings s.tables w
      let rule := reportOf s.tables.config.stepReport[w.nest]
      let u := (freeComputed s).setNest w.nest { s.nest w.nest with record := some (r.complete budget w fs) }
      if rule = .all ∨ (rule = .fails ∧ ∃ f ∈ fs, f.outcome ≠ .pass) then
        u.setPort (s.port.offerStepReport (stepReport w fs (keyDecision (r.enterRun w.retryRun w.segment w.step fs) budget w)))
      else u := by
  simp only [judgeRecord, offerStepReport, State.modRecord_some _ unit, State.setNest_tables, State.setNest_port, wantsReport_iff]
  split <;> rfl

/-! ## The statement -/

/-- Settles O45: the two events of the Figure Unit are read off their cases, and the bound is kept by every row because what is due is taken
before each frame. -/
theorem figureUnitRuns : Obligations.FigureUnitRuns := by
  refine ⟨fun _ _ _ => rfl, ?due, fun c s computing => ⟨computationOverdue_of_lt computing, computationOverdue_of_le computing⟩,
    fun i s t => exec_computesWithin i, ?take, ?noUnit, ?unit⟩
  case due => simp [dueEvents]
  case take =>
    intro w rest s idle head
    exact congrArg _ (happen_some (figureUnitTake_of_idle idle head))
  case noUnit =>
    intro c s computing gone
    exact congrArg _ (happen_some (figureUnitCompletion_of_no_unit computing gone))
  case unit =>
    intro c r s computing unit
    refine ⟨fun aborted => ?_, fun tested => ?_⟩
    · exact congrArg _ (happen_some (figureUnitCompletion_of_aborted computing unit aborted))
    · refine congrArg _ ((happen_some (figureUnitCompletion_of_tested computing unit tested)).trans (congrArg settle ?_))
      rw [judgeRecord_eq unit]
      simp only [UnitRecord.complete_eq, stepReport, fundamentalLevel_eq, keyDecision]
      rfl

end Sys2Proof.Machine
end

section
/-! PROOFS. The Unit Record's findings: the tally and its pairs (R4), the entry of a finding (R122), the replacement of a step's findings
(R126), the relation of R121 that both keep, the admission of a retry key (R125) and the conditions of a rule (R131). -/

namespace Sys2Proof.Machine

open Sys2Proof

/-! ## The tally (R4) -/

/-- The counts of different pairs stand at different places. -/
theorem tallyIndex_inj {k k' : FindingKind} {o o' : FindingOutcome} : tallyIndex k o = tallyIndex k' o' ↔ k = k' ∧ o = o' := by
  refine ⟨fun same => ?_, fun ⟨hk, ho⟩ => hk ▸ ho ▸ rfl⟩
  have kinds : ∀ a b : FindingKind, kindIndex a = kindIndex b → a = b := by intro a b; cases a <;> cases b <;> decide
  have outcomes : ∀ a b : FindingOutcome, outcomeIndex a = outcomeIndex b → a = b := by intro a b; cases a <;> cases b <;> decide
  have value : (kindIndex k).val * 5 + (outcomeIndex o).val = (kindIndex k').val * 5 + (outcomeIndex o').val := congrArg Fin.val same
  exact ⟨kinds k k' (by omega), outcomes o o' (by omega)⟩

/-- The empty tally counts nothing of any pair. -/
@[simp] theorem Tally.get_zero (k : FindingKind) (o : FindingOutcome) : Tally.zero.get k o = 0 := by
  simp [Tally.zero, Tally.get]

/-- A count that is set is read back at its own pair alone. -/
theorem Tally.get_set (t : Tally) (k k' : FindingKind) (o o' : FindingOutcome) (v : Nat) :
    Tally.get (t.set (tallyIndex k o) v) k' o' = if k = k' ∧ o = o' then v else t.get k' o' := by
  simp only [← tallyIndex_inj, Fin.ext_iff]
  exact Vector.getElem_set ..

/-- One more finding is counted at its own pair alone. -/
theorem Tally.get_bump (t : Tally) (k k' : FindingKind) (o o' : FindingOutcome) :
    (t.bump k o).get k' o' = t.get k' o' + if k = k' ∧ o = o' then 1 else 0 := by
  rw [bump, get_set]
  split
  · next same => obtain ⟨rfl, rfl⟩ := same; rfl
  · rfl

/-- One finding less is counted at its own pair alone. -/
theorem Tally.get_drop (t : Tally) (k k' : FindingKind) (o o' : FindingOutcome) :
    (t.drop k o).get k' o' = t.get k' o' - if k = k' ∧ o = o' then 1 else 0 := by
  rw [drop, get_set]
  split
  · next same => obtain ⟨rfl, rfl⟩ := same; rfl
  · rfl

/-- The counts of a row are taken off pair by pair. -/
@[simp] theorem Tally.get_subtract (t u : Tally) (k : FindingKind) (o : FindingOutcome) :
    (t.subtract u).get k o = t.get k o - u.get k o := by
  simp [Tally.subtract, Tally.get]

/-- The empty tally counts nothing at all. -/
@[simp] theorem Tally.total_zero : Tally.zero.total = 0 := by
  simp [Tally.zero, Tally.total]

/-- One more finding raises the sum of all the counts by 1. -/
@[simp] theorem Tally.total_bump (t : Tally) (k : FindingKind) (o : FindingOutcome) : (t.bump k o).total = t.total + 1 := by
  have place : (tallyIndex k o).val < t.toList.length := by simp
  have whole := t.toList.sum_take_add_sum_drop (tallyIndex k o).val
  rw [List.drop_eq_getElem_cons place, List.sum_cons] at whole
  rw [Tally.total, Tally.bump, Vector.toList_set, List.sum_set, if_pos place, Tally.total, ← whole]
  simp only [Tally.get, Fin.getElem_fin, Vector.getElem_toList]
  omega

/-- Findings taken off one after another lower each count by the number of them that are of its pair. -/
theorem get_foldl_drop (fs : List Finding) (t : Tally) (k : FindingKind) (o : FindingOutcome) :
    (fs.foldl (fun t f => t.drop f.kind f.outcome) t).get k o =
      t.get k o - fs.countP fun f => decide (f.kind = k) && decide (f.outcome = o) := by
  induction fs generalizing t with
  | nil => rfl
  | cons f fs ih => simp [ih, Tally.get_drop, List.countP_cons, Nat.sub_sub, Nat.add_comm]

/-- Rows taken off one after another lower each count by the sum of theirs. -/
theorem get_foldl_subtract (rows : List OverflowRow) (t : Tally) (k : FindingKind) (o : FindingOutcome) :
    (rows.foldl (fun t x => t.subtract x.counts) t).get k o = t.get k o - (rows.map fun x => x.counts.get k o).sum := by
  induction rows generalizing t with
  | nil => rfl
  | cons x rows ih => simp [ih, Nat.sub_sub]

/-- The sum over two sets is the sum over the pairs of their product. -/
theorem sum_filter_pairs {α β : Type} (p : α → Bool) (q : β → Bool) (count : α × β → Nat) (bs : List β) (as : List α) :
    ((as.filter p).map fun a => ((bs.filter q).map fun b => count (a, b)).sum).sum =
      (((as.flatMap fun a => bs.map fun b => (a, b)).filter fun x => p x.1 && q x.2).map count).sum := by
  induction as with
  | nil => rfl
  | cons a as ih =>
    have first : (bs.map fun b => (a, b)).filter (fun x => p x.1 && q x.2) = if p a then (bs.filter q).map fun b => (a, b) else [] := by
      cases h : p a <;> simp [List.filter_map, Function.comp_def, h]
    cases h : p a <;> simp [first, h, ih, Function.comp_def]

/-- The sum of a FINDINGS condition is the one over the pairs of its two sets (R131). -/
theorem Tally.sumOver_eq (t : Tally) (kinds : List FindingKind) (outcomes : List FindingOutcome) :
    t.sumOver kinds outcomes =
      (((allKinds.flatMap fun k => allOutcomes.map fun o => (k, o)).filter fun p => decide (p.1 ∈ kinds ∧ p.2 ∈ outcomes)).map
        fun p => t.get p.1 p.2).sum := by
  simp only [Bool.decide_and, ← List.contains_eq_mem]
  exact sum_filter_pairs kinds.contains outcomes.contains (fun p => t.get p.1 p.2) allOutcomes allKinds

/-! ## The entry of a finding (R122) -/

/-- Whether two findings share segment, step and figure kind. -/
theorem sameFigure_iff {f g : Finding} : f.sameFigure g = true ↔ g.segment = f.segment ∧ g.step = f.step ∧ g.kind = f.kind := by
  simp [Finding.sameFigure, and_assoc]

/-- Whether a row is that of the step. -/
theorem OverflowRow.ofStep_iff {x : OverflowRow} {segment step : Nat} :
    x.ofStep segment step = true ↔ x.segment = segment ∧ x.step = step := by
  simp [OverflowRow.ofStep]

/-- When a finding is stored: the list has a place, and no entry shares its segment, step and figure kind (R122). -/
def UnitRecord.stores (r : UnitRecord) (f : Finding) : Prop :=
  r.findings.length < 16 ∧ ∀ g ∈ r.findings, ¬(g.segment = f.segment ∧ g.step = f.step ∧ g.kind = f.kind)

/-- The guard of the entry. -/
theorem UnitRecord.stores_iff {r : UnitRecord} {f : Finding} :
    (decide (r.findings.length < Config.findingPlaces) && !(r.findings.any f.sameFigure)) = true ↔ r.stores f := by
  rw [Bool.and_eq_true, decide_eq_true_iff]
  exact and_congr Iff.rfl (by simp [← sameFigure_iff])

/-- A finding that is stored stands at the tail. -/
theorem UnitRecord.enter_of_stores {r : UnitRecord} {f : Finding} (h : r.stores f) :
    r.enter f = { r with tally := r.tally.bump f.kind f.outcome, findings := r.findings ++ [f] } :=
  if_pos (stores_iff.mpr h)

/-- A finding that is not stored is counted as overflow. -/
theorem UnitRecord.enter_of_not_stores {r : UnitRecord} {f : Finding} (h : ¬r.stores f) :
    r.enter f =
      { r with tally := r.tally.bump f.kind f.outcome, overflow := r.overflow + 1, rows := bumpRow f r.rows } :=
  if_neg (stores_iff.not.mpr h)

/-- Rows of other steps are passed over. -/
theorem bumpRow_append (f : Finding) {front : List OverflowRow} (rest : List OverflowRow)
    (other : ∀ y ∈ front, ¬(y.segment = f.segment ∧ y.step = f.step)) : bumpRow f (front ++ rest) = front ++ bumpRow f rest := by
  induction front with
  | nil => rfl
  | cons y front ih =>
    rw [List.forall_mem_cons] at other
    rw [List.cons_append, bumpRow, if_neg (OverflowRow.ofStep_iff.not.mpr other.1), ih other.2, List.cons_append]

/-- The row of the finding's step counts it. -/
theorem bumpRow_cons {f : Finding} {x : OverflowRow} (back : List OverflowRow) (own : x.segment = f.segment ∧ x.step = f.step) :
    bumpRow f (x :: back) = { x with counts := x.counts.bump f.kind f.outcome } :: back :=
  if_pos (OverflowRow.ofStep_iff.mpr own)

/-- A measure of tallies that the finding raises by `c` is raised by `c` in the sum over all rows. -/
theorem sum_bumpRow {f : Finding} {measure : Tally → Nat} {c : Nat} (zero : measure Tally.zero = 0)
    (raised : ∀ t : Tally, measure (t.bump f.kind f.outcome) = measure t + c) (rows : List OverflowRow) :
    ((bumpRow f rows).map fun x => measure x.counts).sum = (rows.map fun x => measure x.counts).sum + c := by
  induction rows with
  | nil => simp [bumpRow, raised, zero]
  | cons x rows ih =>
    rw [bumpRow]
    split
    · simp only [List.map_cons, List.sum_cons, raised]
      omega
    · simp only [List.map_cons, List.sum_cons, ih, Nat.add_assoc]

/-- The number of stored findings of a pair, as a count. -/
theorem UnitRecord.stored_eq_countP (r : UnitRecord) (k : FindingKind) (o : FindingOutcome) :
    r.stored k o = r.findings.countP fun f => decide (f.kind = k) && decide (f.outcome = o) :=
  (List.countP_eq_length_filter ..).symm

/-- The entry of a finding keeps the relation of R121. -/
theorem UnitRecord.Consistent.enter {r : UnitRecord} (h : r.Consistent) (f : Finding) : (r.enter f).Consistent := by
  obtain ⟨tallied, overflowed, places, apart⟩ := h
  by_cases stores : r.stores f
  · rw [enter_of_stores stores]
    refine ⟨fun k o => ?_, overflowed, ?_, ?_⟩
    · have before := tallied k o
      simp only [stored_eq_countP] at before ⊢
      simp only [Tally.get_bump, List.countP_append, List.countP_singleton, Bool.and_eq_true, decide_eq_true_eq]
      omega
    · simpa using stores.1
    · exact List.pairwise_append.mpr ⟨apart, List.pairwise_singleton .., by simpa using stores.2⟩
  · rw [enter_of_not_stores stores]
    refine ⟨fun k o => ?_, ?_, places, apart⟩
    · have before := tallied k o
      have rows := sum_bumpRow (f := f) (measure := (·.get k o)) (Tally.get_zero k o) (fun t => t.get_bump f.kind k f.outcome o) r.rows
      simp only [stored_eq_countP] at before ⊢
      simp only [Tally.get_bump, rows]
      omega
    · have rows := sum_bumpRow (f := f) (measure := Tally.total) Tally.total_zero (fun t => t.total_bump f.kind f.outcome) r.rows
      exact rows ▸ congrArg (· + 1) overflowed

/-! ## The replacement of a step's findings (R126) -/

/-- What a filter takes and what it leaves add up to the whole. -/
theorem sum_map_filter_add {α : Type} (p : α → Bool) (measure : α → Nat) (l : List α) :
    ((l.filter p).map measure).sum + ((l.filter fun a => !(p a)).map measure).sum = (l.map measure).sum := by
  have parts := ((List.filter_append_perm p l).map measure).sum_eq
  rwa [List.map_append, List.sum_append] at parts

/-- The removal of a step's findings keeps the relation of R121. -/
theorem UnitRecord.Consistent.removeStep {r : UnitRecord} (h : r.Consistent) (segment step : Nat) :
    (r.removeStep segment step).Consistent := by
  obtain ⟨tallied, overflowed, places, apart⟩ := h
  refine ⟨fun k o => ?_, ?_, ?_, apart.filter _⟩
  · have before := tallied k o
    have rows := sum_map_filter_add (OverflowRow.ofStep segment step) (fun x => x.counts.get k o) r.rows
    have findings := (List.filter_append_perm (Finding.ofStep segment step) r.findings).countP_eq
      fun f => decide (f.kind = k) && decide (f.outcome = o)
    rw [List.countP_append] at findings
    simp only [stored_eq_countP] at before ⊢
    simp only [UnitRecord.removeStep, get_foldl_subtract, get_foldl_drop]
    omega
  · have rows := sum_map_filter_add (OverflowRow.ofStep segment step) (fun x => x.counts.total) r.rows
    simp only [UnitRecord.removeStep]
    omega
  · exact (List.length_filter_le _ _).trans places

/-! ## The admission of a key (R125) -/

/-- The three conditions of an admission. -/
theorem UnitRecord.admitsKey_iff {r : UnitRecord} {budget : Nat} {k : RetryKey} :
    r.admitsKey budget k = true ↔ k ∉ r.retryList ∧ r.retriesUsed + r.retryList.length < budget ∧ r.retryList.length < 16 := by
  simp only [UnitRecord.admitsKey, Bool.and_eq_true, Bool.not_eq_true', decide_eq_true_eq, List.contains_eq_mem, decide_eq_false_iff_not,
    and_assoc]
  rfl

/-! ## The statement -/

/-- Settles O46: the entry and the removal keep the relation of R121 count by count, the rows are walked to the finding's own, and the
sum of a FINDINGS condition is the one over the pairs of its sets. -/
theorem findingsStayConsistent : Obligations.FindingsStayConsistent := by
  refine ⟨fun r f segment step consistent => ?entry, fun r budget k => ?key, fun r n =>
    ⟨fun kinds outcomes cmp k => ?sum, ?_, ?_, ?_⟩⟩
  case entry =>
    refine ⟨consistent.enter f, consistent.removeStep segment step, UnitRecord.enter_of_stores,
      fun overflows => ⟨?_, fun other => ?_⟩, ?_, ?_⟩
    · intro front x back split own other
      rw [UnitRecord.enter_of_not_stores overflows, split, bumpRow_append f _ other, bumpRow_cons back own]
      rfl
    · have created := bumpRow_append f [] other
      rw [List.append_nil] at created
      rw [UnitRecord.enter_of_not_stores overflows, created]
      rfl
    · simp [UnitRecord.removeStep, Finding.ofStep]
    · simp [UnitRecord.removeStep, OverflowRow.ofStep]
  case key =>
    exact ⟨UnitRecord.admitsKey_iff, fun h => if_pos (UnitRecord.admitsKey_iff.mpr h),
      fun h => if_neg (UnitRecord.admitsKey_iff.not.mpr h)⟩
  case sum =>
    intro pairs sum
    have total : r.tally.sumOver kinds outcomes = sum := r.tally.sumOver_eq kinds outcomes
    refine ⟨total, ?_⟩
    cases cmp <;> simp [Condition.holds, total]
  · intro is
    rw [Condition.holds, beq_iff_eq, eq_comm, Bool.eq_iff_iff, Option.isSome_iff_exists]
  · simp [Condition.holds]
  · simp [GradeRule.holds]

end Sys2Proof.Machine
end

section
/-! PROOFS. The Label Composer (R158, R160) and the UNIT_REPORT (R135): the digits of a number, the value of a FIGURE field, and the join of
the renderings. -/

namespace Sys2Proof.Machine

open Sys2Proof

/-! ## Decimal digits (R158) -/

/-- The code of a digit. -/
@[simp] theorem digitByte_toNat (d : Nat) : (digitByte d).toNat = 48 + d % 10 := by
  rw [digitByte, BitVec.toNat_ofNat]
  omega

/-- The byte of a digit is a decimal digit. -/
@[simp] theorem isDigit_digitByte (d : Nat) : isDigit (digitByte d) = true := by
  simp only [isDigit, digitByte_toNat, Bool.and_eq_true, decide_eq_true_eq]
  omega

/-- A digit after others counts ones, and the others tens. -/
theorem digitsValue_append_digitByte (t : Text) (d : Nat) : digitsValue (t ++ [digitByte d]) = 10 * digitsValue t + d % 10 := by
  simp [digitsValue]

/-- The text is the decimal digits of the number without leading zeros. -/
def Writes (v : Nat) (t : Text) : Prop :=
  t ≠ [] ∧ t.all isDigit = true ∧ digitsValue t = v ∧ (t.head? = some 48 → t = [48])

/-- A number below 10 is written as its digit. -/
theorem writes_digit {v : Nat} (h : v < 10) : Writes v [digitByte v] := by
  refine ⟨by simp, by simp, ?_, by simp⟩
  simp [digitsValue, Nat.mod_eq_of_lt h]

/-- A number of more digits is its tens, which are not 0, and its last digit. -/
theorem Writes.append_digit {v : Nat} {t : Text} (h : Writes (v / 10) t) (large : 10 ≤ v) : Writes v (t ++ [digitByte v]) := by
  obtain ⟨nonempty, digits, value, leading⟩ := h
  refine ⟨by simp, by simp [digits], ?_, fun zero => ?_⟩
  · rw [digitsValue_append_digitByte, value]
    omega
  · rw [List.head?_append_of_ne_nil _ nonempty] at zero
    have tens : v / 10 = 0 := value ▸ leading zero ▸ rfl
    omega

/-- The digits already written stand behind those of the number. -/
theorem decimalInto_eq_append (fuel v : Nat) (acc : Text) : decimalInto fuel v acc = decimalInto fuel v [] ++ acc := by
  induction fuel generalizing v acc with
  | zero => rfl
  | succ fuel ih =>
    rw [decimalInto, decimalInto]
    split
    · rfl
    · rw [ih _ (_ :: acc), ih _ [_], List.append_assoc, List.singleton_append]

/-- The fuel is at least the number of digits. -/
theorem writes_decimalInto (fuel : Nat) {v : Nat} (h : v < 10 ^ (fuel + 1)) : Writes v (decimalInto (fuel + 1) v []) := by
  induction fuel generalizing v with
  | zero =>
    have small : v < 10 := h
    rw [decimalInto, if_pos small]
    exact writes_digit small
  | succ fuel ih =>
    rw [decimalInto]
    split
    · next small => exact writes_digit small
    · next large =>
      rw [decimalInto_eq_append]
      exact (ih (Nat.div_lt_of_lt_mul (pow_succ' 10 (fuel + 1) ▸ h))).append_digit (not_lt.mp large)

/-- A number of at most 40 digits is written in decimal without leading zeros. -/
theorem writes_decimal {v : Nat} (h : v < 10 ^ 40) : Writes v (decimal v) := writes_decimalInto 39 h

/-- A serial of at most eight digits has the value of its eight digits. -/
theorem digitsValue_serialText {v : Nat} (h : v ≤ 99999999) : digitsValue (serialText v) = v := by
  simp only [serialText, digitsValue, List.map_cons, List.map_nil, List.foldl_cons, List.foldl_nil, digitByte_toNat,
    Nat.add_sub_cancel_left]
  omega

/-! ## Figures (R158) -/

/-- The text is the whole part of the tenths without leading zeros, a point and the last digit. -/
def WritesTenths (v : Nat) (t : Text) : Prop :=
  ∃ whole, Writes (v / 10) whole ∧ t = whole ++ [46, BitVec.ofNat 8 (48 + v % 10)]

/-- Tenths are written with a point before their last digit. -/
theorem writesTenths_tenthsText {v : Nat} (h : v < 10 ^ 40) : WritesTenths v (tenthsText v) :=
  ⟨_, writes_decimal (Nat.lt_of_le_of_lt (Nat.div_le_self ..) h), rfl⟩

/-- A level is written with its sign. -/
theorem figureText_of_level {f : Figure} (level : f ≠ .impedance) (v : Int) :
    figureText f v = (if v < 0 then 45 else 43) :: tenthsText v.natAbs := by
  cases f with
  | impedance => exact absurd rfl level
  | response | thd | rub | crest => rfl

/-- An impedance is written in tenths of an ohm, halves rounded up. -/
theorem figureText_impedance {v : Int} (h : 0 ≤ v) : figureText .impedance v = tenthsText ((v.toNat + 5) / 10) := by
  have rounded : (roundDiv v 10).toNat = (v.toNat + 5) / 10 := by
    rw [roundDiv, if_pos h, Int.toNat_natCast]
    omega
  rw [figureText, rounded]

/-- A kind without a stored finding has no value. -/
theorem firstValue_of_absent {fs : List Finding} {f : Figure} (h : ∀ x ∈ fs, x.kind ≠ figureKind f) : firstValue fs f = none := by
  have absent : fs.find? (fun x => decide (x.kind = figureKind f)) = none := List.find?_eq_none.mpr fun x hx => by simpa using h x hx
  rw [firstValue, absent, Option.bind_none]

/-- The first stored finding of the kind gives the value. -/
theorem firstValue_of_first {front back : List Finding} {x : Finding} {f : Figure} (before : ∀ y ∈ front, y.kind ≠ figureKind f)
    (first : x.kind = figureKind f) : firstValue (front ++ x :: back) f = x.value := by
  have absent : front.find? (fun x => decide (x.kind = figureKind f)) = none :=
    List.find?_eq_none.mpr fun y hy => by simpa using before y hy
  simp [firstValue, List.find?_append, absent, first]

section
variable {n : NestId} {r : UnitRecord} {d : Disposition} {l : LotCounters} {f : Figure}

/-- A figure without a value is rendered as a dash. -/
theorem renderField_figure_none (h : firstValue r.findings f = none) : renderField n r d l (.figure f) = [45] := by
  simp [renderField, h, dash]

/-- A figure with a value is rendered as its text. -/
theorem renderField_figure_some {v : Int} (h : firstValue r.findings f = some v) : renderField n r d l (.figure f) = figureText f v := by
  simp [renderField, h]

end

/-! ## The join (R160) -/

/-- The renderings are joined with one "|" between each two. -/
theorem joinFields_eq_intercalate (ts : List Text) : joinFields ts = List.intercalate [124] ts := by
  induction ts with
  | nil => rfl
  | cons t rest ih =>
    cases rest with
    | nil => simp [joinFields]
    | cons u rest =>
      rw [joinFields, ih, List.intercalate_cons_cons, List.append_assoc, List.singleton_append]
      exact List.cons_ne_nil u rest

/-! ## The statement -/

/-- Settles O23: the join, the digits of each number, and the first stored finding of each FIGURE field; the report's fields are read off
the Unit Record by whether it has a disposition. -/
theorem labelsAndReports : Obligations.LabelsAndReports := by
  refine ⟨fun n r d l => ?join, fun n r d l => ?fields, fun n r gone => ⟨fun d graded => ?_, fun aborted => ?_⟩⟩
  case join =>
    rw [composeLabel, joinFields_eq_intercalate]
    rfl
  case fields =>
    intro writes tenths render
    refine ⟨fun t => rfl, rfl, rfl, ?nest, fun bound => ?serial, fun bound => writes_decimal (by omega),
      fun bound => writes_decimal (by omega), fun f => ⟨fun absent => ?absent, fun front x back split before first => ?first⟩⟩
    case nest =>
      have digit : n.val % 10 = n.val := Nat.mod_eq_of_lt (by omega)
      simp only [render, renderField, digitByte, digit]
    case serial => exact ⟨serialText r.serial, rfl, by simp [serialText], by simp [serialText], digitsValue_serialText bound⟩
    case absent => exact renderField_figure_none (firstValue_of_absent absent)
    case first =>
      have value : firstValue r.findings f = x.value := split ▸ firstValue_of_first before first
      refine ⟨fun unvalued => renderField_figure_none (value.trans unvalued), fun v valued => ?_⟩
      have text : render (.figure f) = figureText f v := renderField_figure_some (value.trans valued)
      rw [text]
      refine ⟨fun level low high => ?_, fun impedance low high => ?_⟩
      · exact ⟨_, writesTenths_tenthsText (by omega), figureText_of_level level v⟩
      · subst impedance
        exact figureText_impedance low ▸ writesTenths_tenthsText (by omega)
  · simp [unitReport, graded]
  · simp [unitReport, aborted]

end Sys2Proof.Machine
end

section
/-! PROOFS. The Lot Counters: the disposal of a graded unit (R144), with the rolling window (R149), the yield check (R150) and the nest's
consecutive fails (R152), and the commands NEW_LOT (R146, R147) and CLEAR_NEST_ALERT (R154). -/

namespace Sys2Proof.Machine

open Sys2Proof

variable {s u : State}

/-! ## The counts of a graded unit (R144, items 1 to 3) -/

/-- A nest's place in a vector over the nests is the one that is set. -/
theorem getElem_set_nest {α : Type} (v : Vector α 4) (n m : NestId) (x : α) : (v.set n x)[m] = if m = n then x else v[m] := by
  simp only [Fin.getElem_fin, Vector.getElem_set, Fin.ext_iff, eq_comm]

/-- The count of a nest is raised for that nest alone. -/
theorem addGraded_nestGraded (c : LotCounts) (n m : NestId) (pass : Bool) (code : Nat) (retest : Bool) :
    (c.addGraded n pass code retest).nestGraded[m] = if m = n then c.nestGraded[m].bump else c.nestGraded[m] := by
  refine (getElem_set_nest ..).trans ?_
  split
  · next same => rw [same]
  · rfl

/-- The passes of a nest are raised for that nest alone, at a bin of 0. -/
theorem addGraded_nestPassed (c : LotCounts) (n m : NestId) (pass : Prop) [Decidable pass] (code : Nat) (retest : Bool) :
    (c.addGraded n (decide pass) code retest).nestPassed[m] = if m = n ∧ pass then c.nestPassed[m].bump else c.nestPassed[m] := by
  refine (getElem_set_nest ..).trans ?_
  by_cases same : m = n
  · subst same; simp [Count.bumpIf]
  · simp [same]

/-- The count of a grade code is raised for that code alone, and for none where the code is out of range. -/
theorem addGraded_perGrade (c : LotCounts) (n : NestId) (pass : Bool) (code : Nat) (retest : Bool) (g : Fin 16) :
    (c.addGraded n pass code retest).perGrade[g] = if g.val = code then c.perGrade[g].bump else c.perGrade[g] := by
  by_cases bound : code < 16
  · simp only [LotCounts.addGraded, dif_pos bound, Fin.getElem_fin, Vector.getElem_set, eq_comm (a := code)]
    split
    · next same => simp only [same]
    · rfl
  · have other : g.val ≠ code := by omega
    simp only [LotCounts.addGraded, dif_neg bound, if_neg other]

/-- A unit without a prior serial counts as a first pass, and one with a prior serial as a retest. -/
theorem addGraded_prior (c : LotCounts) (n : NestId) (pass : Prop) [Decidable pass] (code : Nat) (prior : Option Nat) :
    let a := c.addGraded n (decide pass) code prior.isSome
    a.firstGraded = (if prior = none then c.firstGraded.bump else c.firstGraded) ∧
      a.firstPassed = (if prior = none ∧ pass then c.firstPassed.bump else c.firstPassed) ∧
      a.retestGraded = (if prior = none then c.retestGraded else c.retestGraded.bump) ∧
      a.retestPassed = if prior ≠ none ∧ pass then c.retestPassed.bump else c.retestPassed := by
  cases prior <;> simp [LotCounts.addGraded, Count.bumpIf]

/-! ## The rolling window (R149) -/

/-- An append puts the outcome at the tail, and takes the oldest off a window that was full, with its part of the pass count. -/
theorem LotCounters.append_eq (l : LotCounters) (pass : Bool) :
    l.append pass =
      let full := decide (l.settings.window ≤ l.outcomes.length)
      { l with
        outcomes := (if full then l.outcomes.tail else l.outcomes) ++ [pass]
        passCount := l.passCount + pass.toNat - (full && l.outcomes.headD false).toNat } := by
  unfold LotCounters.append
  split
  · next full => simp [full, Bool.toNat, Bool.cond_eq_ite]
  · next room => simp [room, Bool.toNat, Bool.cond_eq_ite]

/-! ## The yield check (R150) -/

/-- The yield warning is due: the window is full, the warning is clear, and the pass count is below the threshold (R150). -/
def LotCounters.yieldFalls (l : LotCounters) : Bool :=
  decide (l.outcomes.length = l.settings.window) && !l.yieldLow && decide (l.passCount < l.settings.threshold)

/-- The yield warning ends: it is set, and the pass count is at or above the threshold (R150). -/
def LotCounters.yieldRecovers (l : LotCounters) : Bool := l.yieldLow && decide (l.settings.threshold ≤ l.passCount)

/-- The cases of R150, the first one that fits. -/
theorem yieldCheck_eq (serial : Nat) (n : NestId) :
    yieldCheck serial n s =
      let l := s.lot
      if l.yieldFalls then
        handOver (.yieldLow l.lotId l.settings.window l.settings.threshold l.passCount serial n) (s.setLot { l with yieldLow := true })
      else if l.yieldRecovers then
        handOver (.yieldRecovered l.lotId l.settings.window l.settings.threshold l.passCount (.append serial n))
          (s.setLot { l with yieldLow := false })
      else s := rfl

/-- The yield check changes the yield warning alone. -/
theorem yieldCheck_lot (serial : Nat) (n : NestId) :
    (yieldCheck serial n s).lot =
      { s.lot with yieldLow := if s.lot.yieldFalls then true else if s.lot.yieldRecovers then false else s.lot.yieldLow } := by
  rw [yieldCheck_eq]
  dsimp only
  split_ifs <;> simp

/-- The yield check hands over the event of the case that fits (R156). -/
theorem yieldCheck_port (serial : Nat) (n : NestId) :
    (yieldCheck serial n s).port =
      let l := s.lot
      if l.yieldFalls then s.port.handOver (.yieldLow l.lotId l.settings.window l.settings.threshold l.passCount serial n)
      else if l.yieldRecovers then
        s.port.handOver (.yieldRecovered l.lotId l.settings.window l.settings.threshold l.passCount (.append serial n))
      else s.port := by
  rw [yieldCheck_eq]
  dsimp only
  split_ifs <;> rfl

/-! ## The consecutive fails (R152) -/

/-- A count of consecutive fails raises the nest's alert: the limit is in force and reached, and the flag is clear (R152). -/
def LotCounters.alertDue (l : LotCounters) (n : NestId) (fails : Nat) : Bool :=
  decide (l.settings.failLimit ≠ 0) && decide (l.settings.failLimit ≤ fails) && !l.alerts[n]

/-- The update of the count and its check (R152). -/
theorem failCheck_eq (n : NestId) (serial code bin : Nat) :
    failCheck n serial code bin s =
      let fails := nextFails bin s.lot.fails[n]
      let l := { s.lot with fails := s.lot.fails.set n fails }
      if s.lot.alertDue n fails then
        handOver (.nestAlert n fails l.settings.failLimit serial code bin) (s.setLot { l with alerts := l.alerts.set n true })
      else s.setLot l := rfl

/-- The fail check changes the nest's count and, where the alert is due, its flag. -/
theorem failCheck_lot (n : NestId) (serial code bin : Nat) :
    (failCheck n serial code bin s).lot =
      let fails := nextFails bin s.lot.fails[n]
      { s.lot with
        fails := s.lot.fails.set n fails
        alerts := if s.lot.alertDue n fails then s.lot.alerts.set n true else s.lot.alerts } := by
  rw [failCheck_eq]
  dsimp only
  split_ifs <;> simp

/-- The fail check hands over the alert where it is due (R156). -/
theorem failCheck_port (n : NestId) (serial code bin : Nat) :
    (failCheck n serial code bin s).port =
      let fails := nextFails bin s.lot.fails[n]
      if s.lot.alertDue n fails then s.port.handOver (.nestAlert n fails s.lot.settings.failLimit serial code bin) else s.port := by
  rw [failCheck_eq]
  dsimp only
  split_ifs <;> rfl

/-! ## The disposal of a graded unit (R144) -/

/-- A flag that is set where a condition holds, read at each nest. -/
theorem getElem_setIf_nest (v : Vector Bool 4) (n m : NestId) (b : Bool) :
    (if b then v.set n true else v)[m] = (v[m] || (b && decide (m = n))) := by
  cases b
  · simp
  · rw [if_pos rfl, getElem_set_nest]
    split <;> simp [*]

/-- Settles O48: the counts and the window are those of R144 and R149, and the two checks, in their order, each change a part of the
lot of its own and hand over its own event. -/
theorem gradedUnitsAreCounted : Obligations.GradedUnitsAreCounted := by
  intro n r d s l pass full outcomes passes low recovered fails alert u
  have lot : u.lot =
      { l with
        counts := l.counts.addGraded n pass d.code r.prior.isSome, outcomes := outcomes, passCount := passes
        yieldLow := if low then true else if recovered then false else l.yieldLow
        fails := l.fails.set n fails, alerts := if alert then l.alerts.set n true else l.alerts } := by
    simp only [u, countGraded, failCheck_lot, yieldCheck_lot, LotCounters.append_eq]
    rfl
  have port : u.port =
      let p := if low then s.port.handOver (.yieldLow l.lotId l.settings.window l.settings.threshold passes r.serial n)
        else if recovered then
          s.port.handOver (.yieldRecovered l.lotId l.settings.window l.settings.threshold passes (.append r.serial n))
        else s.port
      if alert then p.handOver (.nestAlert n fails l.settings.failLimit r.serial d.code d.bin) else p := by
    simp only [u, countGraded, failCheck_port, yieldCheck_port, yieldCheck_lot, LotCounters.append_eq]
    rfl
  obtain ⟨firstGraded, firstPassed, retestGraded, retestPassed⟩ := addGraded_prior l.counts n (d.bin = 0) d.code r.prior
  rw [lot]
  refine ⟨fun m other => ⟨(getElem_set_nest ..).trans (if_neg other), (getElem_setIf_nest ..).trans ?_⟩,
    (getElem_set_nest ..).trans (if_pos rfl), (getElem_setIf_nest ..).trans ?_, rfl, rfl, rfl, rfl, rfl, rfl,
    addGraded_perGrade _ _ _ _ _, fun m => ⟨addGraded_nestGraded .., addGraded_nestPassed ..⟩,
    firstGraded, firstPassed, retestGraded, retestPassed, rfl, rfl, rfl, rfl, rfl, rfl, port⟩
  · simp [other]
  · simp

/-! ## A new lot (R146, R147) -/

/-- The fields of NEW_LOT that R146 accepts. -/
def NewLotFits (lotId serialPrefix serial : Text) : Prop :=
  let chars := fun (lo : Nat) (t : Text) => lo ≤ t.length ∧ t.length ≤ 6 ∧ ∀ b ∈ t, 32 ≤ b.toNat ∧ b.toNat ≤ 126
  chars 1 lotId ∧ chars 0 serialPrefix ∧ serial.length = 8 ∧ ∀ b ∈ serial, 48 ≤ b.toNat ∧ b.toNat ≤ 57

/-- Some nest holds a unit in flight (R143). -/
def UnitInFlight (s : State) : Prop :=
  ∃ n : NestId, (s.nest n).state = .testing ∨ (s.nest n).state = .finishing ∨ (s.nest n).state = .disposing

/-- A serial is read exactly from eight decimal digits. -/
theorem parseSerial_eq (t : Text) :
    parseSerial t = if t.length = 8 ∧ ∀ b ∈ t, 48 ≤ b.toNat ∧ b.toNat ≤ 57 then some (digitsValue t) else none := by
  simp [parseSerial, isDigit]

/-- A serial that is read has the value of its digits. -/
theorem parseSerial_some {t : Text} {v : Nat} (h : parseSerial t = some v) : v = digitsValue t := by
  simp only [parseSerial, Option.ite_none_right_eq_some, Option.some.injEq] at h
  exact h.2.symm

/-- A name is at most so long, of printable characters. -/
theorem isName_iff {k : Nat} {t : Text} : isName k t = true ↔ t.length ≤ k ∧ ∀ b ∈ t, 32 ≤ b.toNat ∧ b.toNat ≤ 126 := by
  simp [isName, printable]

/-- The states of a unit in flight (R143). -/
theorem inFlight_iff {x : NestState} : x.inFlight = true ↔ x = .testing ∨ x = .finishing ∨ x = .disposing := by
  cases x <;> simp [NestState.inFlight]

/-- The nests are N0 to N3. -/
theorem mem_nestIds (n : NestId) : n ∈ nestIds := by
  decide +revert

/-- The check of NEW_LOT for a unit in flight. -/
theorem any_inFlight_iff : (nestIds.any fun n => (s.nest n).state.inFlight) = true ↔ UnitInFlight s := by
  simp [inFlight_iff, UnitInFlight, mem_nestIds]

/-- The fields of NEW_LOT fit exactly where its checks let them pass. -/
theorem newLotFits_iff {lotId serialPrefix serial : Text} :
    NewLotFits lotId serialPrefix serial ↔
      (lotId.isEmpty || !isName 6 lotId || !isName 6 serialPrefix) = false ∧ parseSerial serial = some (digitsValue serial) := by
  simp [NewLotFits, parseSerial_eq, isName_iff, Nat.one_le_iff_ne_zero, and_assoc]

/-- NEW_LOT with malformed fields is refused before every other check (R146). -/
theorem handleNewLot_malformed {lotId serialPrefix serial : Text} (h : ¬NewLotFits lotId serialPrefix serial) :
    handleNewLot lotId serialPrefix serial s = refuse .badArgument s := by
  unfold handleNewLot
  split
  · rfl
  · next v read =>
    obtain rfl := parseSerial_some read
    exact if_pos (by_contra fun names => h (newLotFits_iff.mpr ⟨Bool.eq_false_iff.mpr names, read⟩))

/-- NEW_LOT with fields that fit is refused with a unit in flight, and opens the lot otherwise (R146, R147). -/
theorem handleNewLot_fits {lotId serialPrefix serial : Text} (h : NewLotFits lotId serialPrefix serial) :
    handleNewLot lotId serialPrefix serial s =
      if nestIds.any fun n => (s.nest n).state.inFlight then refuse .busy s
      else accept (openLot lotId serialPrefix (digitsValue serial) s) := by
  obtain ⟨names, value⟩ := newLotFits_iff.mp h
  rw [handleNewLot, value]
  exact if_neg (Bool.eq_false_iff.mp names)

/-- The lot that NEW_LOT opens, and the YIELD_RECOVERED that it hands over where yield-low was set (R147, R151, R156). -/
theorem openLot_eq (lotId serialPrefix : Text) (serial : Nat) :
    openLot lotId serialPrefix serial s =
      let opened := s.setLot (s.lot.opened lotId serialPrefix serial)
      if s.lot.yieldLow then
        opened.setPort (s.port.handOver (.yieldRecovered lotId s.lot.settings.window s.lot.settings.threshold 0 .newLot))
      else opened := rfl

/-- An opened lot leaves a reply its slot in the Result Queue (R193). -/
theorem openLot_results_length (lotId serialPrefix : Text) (serial : Nat) (h : s.port.results.length < 48) :
    (openLot lotId serialPrefix serial s).port.results.length < 48 := by
  rw [openLot, recoveredBy]
  split
  · exact (handOver_length _).trans_lt (max_lt h (by decide))
  · exact h

/-! ## The commands -/

/-- A command that leaves its reply a slot ends with it at the tail of the Result Queue. -/
theorem arrive_answered {tag : Byte} {c : Command} {code : ReplyCode} {data : ReplyData} (h : Serving s)
    (handled : handleCommand tag c s = (u, some (code, data))) (room : u.port.results.length < 48) :
    arrive ⟨tag, .command c⟩ s = u.withReply tag code data := by
  rw [arrive_serving h, takeCommand, handleRequest, handled, reply_eq_withReply _ _ _ room]

/-- Settles O49: the checks of NEW_LOT one after another and the lot that it opens, whose event leaves the reply its slot; and the one
check of CLEAR_NEST_ALERT. -/
theorem lotCommands : Obligations.LotCommands := by
  refine ⟨fun tag lotId serialPrefix serial s hs => ⟨fun malformed => ?_, fun fits flying => ?_, fun fits landed => ?_⟩,
    fun tag nest s hs => ⟨fun above => ?_, ?_⟩⟩
  · exact next_settle (arrive_refused hs (handleNewLot_malformed malformed))
  · exact next_settle (arrive_refused hs ((handleNewLot_fits fits).trans (if_pos (any_inFlight_iff.mpr flying))))
  · have accepted : handleCommand tag (.newLot lotId serialPrefix serial) s = accept (openLot lotId serialPrefix (digitsValue serial) s) :=
      (handleNewLot_fits fits).trans (if_neg fun any => landed (any_inFlight_iff.mp any))
    have ⟨_, _, place⟩ := hs
    exact next_settle ((arrive_answered hs accepted (openLot_results_length _ _ _ place)).trans
      (congrArg (State.withReply · tag .ok .none) (openLot_eq ..)))
  · exact next_settle (arrive_refused hs (by simp [handleCommand, handleClearNestAlert, nestOf_above above]))
  · rintro n rfl
    exact next_settle (arrive_command hs (by simp [handleCommand, handleClearNestAlert, accept]) rfl)

end Sys2Proof.Machine
end

section
/-! PROOFS. The disposal reservations (R161, R162), and the disposal of graded and aborted units (R14, R21). -/

namespace Sys2Proof.Machine

open Sys2Proof

variable {s : State}

/-! ## The reservation (R161) -/

/-- A unit needs a Label Queue place once it is graded with a template. -/
theorem needsLabel_iff {r : UnitRecord} : needsLabel r = true ↔ ∃ d, r.disposition = some d ∧ d.template.isSome = true := by
  simp [needsLabel, Option.any_eq_true]

/-- A non-reply slot is available below 44 messages, a reserved slot counted in (R193). -/
theorem nonReplyAvailable_iff {p : Port} : nonReplyAvailable p = true ↔ p.results.length + p.reserved.toNat < 44 := by
  cases h : p.reserved <;> simp [nonReplyAvailable, h, Config.nonReplyPlaces]

/-- A Label Queue place is available below 32 labels (R161). -/
theorem labelAvailable_iff {m : Marker} : labelAvailable m = true ↔ m.labels.length < 32 := decide_eq_true_iff

/-- The conditions under which a nest in DISPOSING takes its reservation. -/
theorem reservable_iff {n : NestId} {r : UnitRecord} : reservable s n = some r ↔
    (s.nest n).state = .disposing ∧ (s.nest n).record = some r ∧ r.pending = 0 ∧
      s.port.results.length + s.port.reserved.toNat < 44 ∧
      ((∃ d, r.disposition = some d ∧ d.template.isSome = true) → s.marker.labels.length < 32) := by
  simp only [reservable, Option.ite_none_right_eq_some, Option.filter_eq_some_iff, Bool.and_eq_true, Bool.or_eq_true,
    decide_eq_true_eq, Bool.not_eq_true', nonReplyAvailable_iff, labelAvailable_iff, ← needsLabel_iff, imp_iff_not_or,
    Bool.not_eq_true, and_assoc]

/-- A nest waits: where it holds a unit in DISPOSING, a window is pending, no report slot is available, or it needs a label place and none
is. -/
def WaitsForReservation (s : State) (n : NestId) : Prop :=
  ∀ r, (s.nest n).state = .disposing → (s.nest n).record = some r →
    r.pending ≠ 0 ∨ 44 ≤ s.port.results.length + s.port.reserved.toNat ∨
      ((∃ d, r.disposition = some d ∧ d.template.isSome = true) ∧ 32 ≤ s.marker.labels.length)

/-- The nests that wait are those that can take no reservation. -/
theorem waitsForReservation_iff {n : NestId} : WaitsForReservation s n ↔ reservable s n = none := by
  rw [Option.eq_none_iff_forall_ne_some]
  refine forall_congr' fun r => ?_
  simp only [Ne, reservable_iff, not_and_or, imp_iff_not_or, not_or, not_not, not_lt]

/-- A nest that does not wait takes the reservation for its own unit. -/
theorem reservable_of_not_waits {n : NestId} {r : UnitRecord} (go : ¬WaitsForReservation s n) (unit : (s.nest n).record = some r) :
    reservable s n = some r := by
  obtain ⟨q, hq⟩ := Option.ne_none_iff_exists'.mp (mt waitsForReservation_iff.mpr go)
  have ⟨_, own, _⟩ := reservable_iff.mp hq
  rwa [Option.some.inj (unit.symm.trans own)]

/-! ## The two rows (R14, R21) -/

/-- A nest that waits is not disposed of. -/
theorem disposals_of_waits {n : NestId} (waits : WaitsForReservation s n) :
    disposal n s = none ∧ abortedDisposal n s = none ∧ disposeNest s n = none := by
  simp [disposeNest, disposal, abortedDisposal, waitsForReservation_iff.mp waits]

section
variable {n : NestId} {r : UnitRecord} (reserved : reservable s n = some r)
include reserved

/-- A graded unit with its reservation is disposed of. -/
theorem disposal_of_graded {d : Disposition} (graded : r.disposition = some d) : disposal n s = some (disposeGraded n r d s) := by
  simp [disposal, reserved, graded]

/-- An aborted unit with its reservation is disposed of. -/
theorem abortedDisposal_of_aborted (aborted : r.abort.isSome = true) : abortedDisposal n s = some (disposeAborted n r s) := by
  simp [abortedDisposal, reserved, aborted]

/-- DISPOSAL is the disposal of a nest whose unit is graded. -/
theorem disposeNest_of_graded {d : Disposition} (graded : r.disposition = some d) : disposeNest s n = disposal n s := by
  simp [disposeNest, disposal_of_graded reserved graded]

/-- ABORTED_DISPOSAL is the disposal of a nest whose unit is not graded. -/
theorem disposeNest_of_ungraded (ungraded : r.disposition = none) : disposeNest s n = abortedDisposal n s := by
  simp [disposeNest, disposal, reserved, ungraded]

end

/-- The reservations pass over the nests that wait (R162). -/
theorem reserveNext_skip {front back : List NestId} {n : NestId} {u : State} (order : s.disposing = front ++ n :: back)
    (passed : ∀ m ∈ front, WaitsForReservation s m) (disposed : disposeNest s n = some u) : reserveNext s = some u := by
  have skipped : front.findSome? (disposeNest s) = none :=
    List.findSome?_eq_none_iff.mpr fun m hm => (disposals_of_waits (passed m hm)).2.2
  rw [reserveNext, order, List.findSome?_append, skipped, Option.none_or, List.findSome?_cons, disposed]

/-! ## What a disposal changes (R14, R21) -/

/-- The label of a graded unit joins the Label Queue, unless its template is NONE. -/
theorem placeLabel_eq (n : NestId) (r : UnitRecord) (d : Disposition) :
    placeLabel n r d s = s.setMarker { s.marker with
      labels := s.marker.labels ++ if d.template.isSome then [composeLabel n r d s.lot] else [] } := by
  unfold placeLabel
  split
  · rfl
  · rw [List.append_nil]
    rfl

/-- The nest leaves DISPOSING for DISPOSED, or for EMPTY where its unit has gone, by what the state before the disposal holds of it. -/
theorem leaveDisposing_eq {n : NestId} {pass : Bool} {u : State} (nests : u.nests = s.nests) (order : u.disposing = s.disposing) :
    leaveDisposing n pass u =
      let left := u.setDisposing (s.disposing.filter fun m => !(m == n))
      if (s.nest n).gone then enterEmpty n left else left.setNest n ((s.nest n).toDisposed pass) := by
  have own : u.nest n = s.nest n := congrArg (·[n]) nests
  rw [← own, ← order]
  rfl

/-- A graded unit is counted, then labelled, then reported in the reserved slot (R14, items 1 to 3). -/
theorem graded_reported_eq (n : NestId) (r : UnitRecord) (d : Disposition) :
    placeReport n r (placeLabel n r d (countGraded n r d (reserveSlot true s))) =
      let c := countGraded n r d (reserveSlot true s)
      { c with
        marker := { s.marker with labels := s.marker.labels ++ (if d.template.isSome then [composeLabel n r d c.lot] else []) }
        port := { c.port with
          reserved := false
          results := c.port.results ++ [.unitReport (unitReport n r (s.nest n).gone)] } } := by
  have nest : (countGraded n r d (reserveSlot true s)).nest n = s.nest n := by simp [State.nest]
  have marker : (countGraded n r d (reserveSlot true s)).marker = s.marker := by simp
  rw [placeLabel_eq, placeReport, State.setMarker_nest, nest, marker]
  rfl

/-- An aborted unit adds to the aborted count and is reported; the slot reserved for the report is given back (R21, items 1 and 2). -/
theorem aborted_reported_eq (n : NestId) (r : UnitRecord) (free : s.port.reserved = false) :
    placeReport n r (countAborted (reserveSlot true s)) = { s with
      lot := { s.lot with counts := { s.lot.counts with aborted := s.lot.counts.aborted.bump } }
      port := { s.port with results := s.port.results ++ [.unitReport (unitReport n r (s.nest n).gone)] } } := by
  have back : ∀ rs, { s.port with reserved := false, results := rs } = { s.port with results := rs } := fun rs => by rw [← free]
  exact congrArg (countAborted s).setPort (back _)

/-! ## The statement -/

/-- Settles O22: a nest waits exactly where it can take no reservation, the reservations pass over the nests that wait, and each disposal
is its blocks' changes one after another. -/
theorem disposals : Obligations.Disposals := by
  refine ⟨fun s => ⟨fun n waits => ?_, fun waits => ?_, fun front n back order passed go => ⟨fun r d unit graded => ?_, ?_⟩⟩, ?_, ?_⟩
  · obtain ⟨notGraded, notAborted, _⟩ := disposals_of_waits waits
    exact ⟨congrArg _ (happen_none notGraded), congrArg _ (happen_none notAborted)⟩
  · exact List.findSome?_eq_none_iff.mpr fun n hn => (disposals_of_waits (waits n hn)).2.2
  · have reserved := reservable_of_not_waits go unit
    have disposed := disposal_of_graded reserved graded
    exact ⟨_, reserveNext_skip order passed ((disposeNest_of_graded reserved graded).trans disposed), congrArg _ (happen_some disposed)⟩
  · intro r unit ungraded aborted
    have reserved := reservable_of_not_waits go unit
    have disposed := abortedDisposal_of_aborted reserved aborted
    exact ⟨_, reserveNext_skip order passed ((disposeNest_of_ungraded reserved ungraded).trans disposed), congrArg _ (happen_some disposed)⟩
  · intro n r d s state unit pending graded free slot label
    have reserved : reservable s n = some r := reservable_iff.mpr
      ⟨state, unit, pending, by simpa [free] using slot, by simpa [graded] using label⟩
    refine congrArg _ ((happen_some (disposal_of_graded reserved graded)).trans (congrArg settle ?_))
    rw [disposeGraded, leaveDisposing_eq (s := s) (by simp) (by simp), graded_reported_eq, decide_not]
    rfl
  · intro n r s state unit pending ungraded aborted free slot
    have reserved : reservable s n = some r := reservable_iff.mpr
      ⟨state, unit, pending, by simpa [free] using slot, by simp [ungraded]⟩
    refine congrArg _ ((happen_some (abortedDisposal_of_aborted reserved aborted)).trans (congrArg settle ?_))
    rw [disposeAborted, leaveDisposing_eq (s := s) (by simp) (by simp), aborted_reported_eq n r free]
    rfl

end Sys2Proof.Machine
end

section
/-! PROOFS. The Marker Line Controller: the line form of a byte (R166), the frames and their replies (R166 to R168), and MARKER_FAULT (R169). -/

namespace Sys2Proof.Machine

open Sys2Proof

variable {s : State}

/-! ## The line form of a byte (R166, R167) -/

/-- The eight data bits of a byte, the least significant first. -/
def dataBits (b : Byte) : List Bool := List.ofFn fun i : Fin 8 => b.getLsbD i.val

/-- A byte has eight data bits. -/
theorem dataBits_length (b : Byte) : (dataBits b).length = 8 := List.length_ofFn

/-- The data bit of each place is the byte's bit of that significance. -/
theorem dataBits_getElem? (b : Byte) (i : Fin 8) : (dataBits b)[i.val]? = some (b.getLsbD i.val) := by
  simp only [dataBits, List.getElem?_ofFn, i.isLt, dite_true]

/-- The line form is the data bits between a start and a stop bit. -/
theorem lineForm_eq (b : Byte) : lineForm b = [.start] ++ (dataBits b).map LineBit.data ++ [.stop] := by
  simp [lineForm, dataBits]

/-- The byte of eight data bits goes on the line as those bits. -/
theorem lineForm_byteOfBits (b0 b1 b2 b3 b4 b5 b6 b7 : Bool) : lineForm (byteOfBits b0 b1 b2 b3 b4 b5 b6 b7) =
    [.start, .data b0, .data b1, .data b2, .data b3, .data b4, .data b5, .data b6, .data b7, .stop] := by
  revert b0 b1 b2 b3 b4 b5 b6 b7
  decide +kernel

/-- Only the line form of a byte is received as that byte. -/
theorem eq_lineForm_of_receivedByte {bits : List LineBit} {b : Byte} (h : receivedByte bits = some b) : bits = lineForm b := by
  unfold receivedByte at h
  split at h
  · cases h
    exact (lineForm_byteOfBits ..).symm
  · cases h

/-- A frame being sent takes ten bits for each of its bytes. -/
theorem markerTx_length {m : Marker} (sending : m.send = .sending) : (markerTx m).length = 10 * m.frame.length := by
  have ten : ∀ b, (lineForm b).length = 10 := fun _ => rfl
  simp [markerTx, sending, List.length_flatMap, ten, Nat.mul_comm]

/-- A byte that is neither ACK nor NAK is ignored. -/
theorem receiveLine_other {bits : List LineBit} {b : Byte} (received : receivedByte bits = some b) (notAck : b ≠ ackByte)
    (notNak : b ≠ nakByte) : receiveLine bits s = none := by
  simp [receiveLine, received, notAck, notNak]

/-- Bits in which no byte is found are ignored. -/
theorem receiveLine_of_no_byte {bits : List LineBit} (h : receivedByte bits = none) : receiveLine bits s = none := by
  simp [receiveLine, h]

/-- Outside AWAITING every byte is ignored. -/
theorem receiveLine_of_not_awaiting {bits : List LineBit} (h : s.marker.send ≠ .awaiting) : receiveLine bits s = none := by
  unfold receiveLine
  split
  · split_ifs <;> simp [takeAck, takeNak, h]
  · rfl

/-! ## Frames and replies (R166, R167) -/

/-- ACK is the row of a received ACK byte. -/
theorem exec_ack : exec .ack s = .next (happen takeAck s) :=
  congrArg (fun event => Host.Outcome.next (happen event s)) receiveLine_ack

/-- NAK is the row of a received NAK byte. -/
theorem exec_nak : exec .nak s = .next (happen takeNak s) :=
  congrArg (fun event => Host.Outcome.next (happen event s)) receiveLine_nak

/-- The head label's frame starts on an idle line that is ready and not held, outside STOPPED. -/
theorem markerFrameStart_of_ready {l : Label} {rest : List Label} (head : s.marker.labels = l :: rest) (idle : s.marker.send = .idle)
    (ready : s.inputs.markerReady.debounced = true) (mode : s.run.mode ≠ .stopped) (free : s.marker.hold = false) :
    markerFrameStart s = some (s.setMarker { s.marker with
      send := .sending, baud := s.tables.config.baud, frame := [2] ++ l.text ++ [3] }) := by
  simp [markerFrameStart, head, idle, ready, mode, free, labelFrame]

/-- The reply timer passes its limit when it reaches it (log entry 24). -/
theorem replyTimeout_of_reached {t : Nat} (awaiting : s.marker.send = .awaiting) (timer : s.marker.replyTimer = some ⟨t, false⟩)
    (reached : 960 * s.marker.replyLimit ≤ t) : replyTimeout s = some (markerFailure .timeout s) := by
  have due : timerDue (ms (10 * s.marker.replyLimit)) s.marker.replyTimer = true :=
    timer ▸ timerDue_of_le (by simp only [ms, Config.framesPerMs]; omega)
  simp [replyTimeout, awaiting, due]

/-! ## Failures (R168, R169) -/

/-- A NAK, or a reply timer that has reached its limit, in AWAITING. -/
def FailureRow (s : State) (i : Instr) (failure : MarkerFailure) : Prop :=
  i = .nak ∧ failure = .nak ∨ i = .replyTimeout ∧ failure = .timeout ∧
    ∃ t, s.marker.replyTimer = some ⟨t, false⟩ ∧ 960 * s.marker.replyLimit ≤ t

/-- Both rows are a failure of the head label. -/
theorem exec_failure {i : Instr} {failure : MarkerFailure} (awaiting : s.marker.send = .awaiting) (row : FailureRow s i failure) :
    exec i s = .next (settle (markerFailure failure s)) := by
  rcases row with ⟨rfl, rfl⟩ | ⟨rfl, rfl, t, timer, reached⟩
  · exact exec_nak.trans (congrArg _ (happen_some (by simp [takeNak, awaiting])))
  · exact congrArg _ (happen_some (replyTimeout_of_reached awaiting timer reached))

/-- A first failure sends the head again (R168). -/
theorem markerFailure_first {failure : MarkerFailure} (first : s.marker.retry = 0) :
    markerFailure failure s = s.setMarker (s.marker.failed 1) := by
  simp [markerFailure, first]

/-- A second failure raises MARKER_FAULT, recorded with the nest and the serial of the head (R169, R179). -/
theorem markerFailure_second {failure : MarkerFailure} {l : Label} {rest : List Label} (second : s.marker.retry = 1)
    (head : s.marker.labels = l :: rest) :
    markerFailure failure s =
      let a := actionOf s.tables.config.actionMarker
      applyStop .markerFault a (markerFaultEffect failure a
        (recordFault .markerFault (.marker failure) (some l.nest) (some l.serial) none none a (s.setMarker (s.marker.failed 0)))) := by
  simp [markerFailure, second, raiseMarkerFault, head]

/-- Action CONTINUE discards the head, with its LABEL_DISCARDED event (R169, R170). -/
theorem markerFaultEffect_continue {failure : MarkerFailure} {l : Label} {rest : List Label} (head : s.marker.labels = l :: rest) :
    markerFaultEffect failure .continue_ s =
      (s.setMarker { s.marker with labels := rest }).setPort
        (s.port.handOver (.labelDiscarded l.serial l.nest l.truncated failure rest.length)) := by
  simp [markerFaultEffect, discardLabel, head, handOver]

/-- A fault has no effect on the mode of a part that is in STANDBY or STOPPED (R180). -/
theorem applyStop_idle (k : FaultKind) (a : Action) (h : s.run.mode.running = false) : applyStop k a s = s := by
  simp [applyStop, h]

/-! ## The statement -/

/-- Settles O50: the line form is read back as its byte and no other bits are, the rows of the controller follow one another, and a second
failure is a fault whose action decides over the head and the mode. -/
theorem markerLine : Obligations.MarkerLine := by
  refine ⟨fun b => ?_, fun m => ⟨fun sending => ?_, fun silent => ?_⟩, fun bits s => ⟨fun b received => ?_, ?_⟩, ?_, ?_, ?_, ?_, ?_⟩
  · exact ⟨dataBits b, lineForm_eq b, dataBits_length b, dataBits_getElem? b, receivedByte_lineForm b⟩
  · exact ⟨by simp [markerTx, sending, List.flatMap_def], markerTx_length sending⟩
  · exact if_neg silent
  · exact ⟨eq_lineForm_of_receivedByte received, receiveLine_other received⟩
  · exact ⟨receiveLine_of_no_byte, receiveLine_of_not_awaiting, rfl, rfl⟩
  · intro l rest s head idle ready mode free
    exact congrArg _ (happen_some (markerFrameStart_of_ready head idle ready mode free))
  · intro s sending
    exact congrArg _ (happen_some (if_pos sending))
  · intro s notAwaiting
    exact ⟨exec_ack.trans (congrArg _ (happen_none (if_neg notAwaiting))), exec_nak.trans (congrArg _ (happen_none (if_neg notAwaiting)))⟩
  · intro l rest s awaiting head
    exact exec_ack.trans (congrArg _ (happen_some (by simp [takeAck, awaiting, head])))
  · intro i failure l rest s awaiting head row
    rw [exec_failure awaiting row]
    refine ⟨fun first => next_settle (markerFailure_first first), fun second => ?_⟩
    rw [markerFailure_second second head]
    refine ⟨fun go => next_settle ?_, fun stop idle => next_settle ?_, fun stop runs => next_settle ?_⟩
    · rw [go, applyStop_continue, markerFaultEffect_continue (by simpa [Marker.failed] using head)]
      rfl
    · rw [stop, applyStop_idle _ _ (by simpa [markerFaultEffect, running_eq_false_iff] using idle)]
      rfl
    · rw [stop, applyStop_running _ (by simpa [markerFaultEffect, running_iff] using runs)]
      rfl

end Sys2Proof.Machine
end

section
/-! PROOFS. The record of a fault (R179, R181) and the declaration of sync loss (R188). -/

namespace Sys2Proof.Machine

open Sys2Proof

variable {s : State}

/-! ## The record of a fault (R179, R181) -/

/-- An increment saturates at the largest 32-bit count. -/
theorem satInc_eq_min {n : Nat} (h : n ≤ 4294967295) : satInc n = min 4294967295 (n + 1) := by
  unfold satInc Config.count32
  split <;> omega

/-- The Fault History overwrites its oldest record where it holds 16 (R181). -/
theorem pushHistory_eq (h : List FaultRecord) (r : FaultRecord) :
    pushHistory h r = (if h.length < 16 then h else h.drop 1) ++ [r] := by
  rw [pushHistory, List.drop_one, Config.historyPlaces]

/-- The items of a raise, field by field (R179). -/
theorem recordFault_eq (kind : FaultKind) (detail : FaultDetail) (nest : Option NestId) (serial segment step : Option Nat) (a : Action)
    (h : s.run.count ≤ 4294967295) :
    recordFault kind detail nest serial segment step a s =
      let count := min 4294967295 (s.run.count + 1)
      let r : FaultRecord := ⟨count, kind, detail, nest, serial, segment, step, a, s.run.mode⟩
      { s with
        run := { s.run with
          count := count
          latched := s.run.latched.set (faultIndex kind) true
          history := (if s.run.history.length < 16 then s.run.history else s.run.history.drop 1) ++ [r]
          first := if a = .stop ∧ s.run.first = none then some r else s.run.first }
        port := s.port.handOver (.faultRaised r) } := by
  simp only [recordFault, satInc_eq_min h, pushHistory_eq, Bool.and_eq_true, decide_eq_true_iff, Option.isNone_iff_eq_none]
  rfl

/-! ## The declaration of sync loss (R188) -/

/-- In LOST there is no loss to declare. -/
theorem exec_converterSyncLost_of_lost (h : s.conv.inSync = false) : exec .converterSyncLost s = .next s :=
  congrArg Host.Outcome.next (if_neg (Bool.eq_false_iff.mp h))

/-- In sync the millisecond of silence passes, and the loss is declared. -/
theorem exec_converterSyncLost_of_sync (h : s.conv.inSync = true) :
    exec .converterSyncLost s = .next (settle (declareLoss (lapse 96 s))) :=
  congrArg Host.Outcome.next (if_pos h)

/-- The record that a declaration makes, before the action of its fault: the port is in LOST and the open windows are flagged (R72). -/
def recordLoss (s : State) : State :=
  recordFault .converterSyncLost .none none none none none .stop { s with
    conv := { s.conv with inSync := false }
    nests := s.nests.map fun x =>
      if windowIsOpen x = true then { x with overload := true } else x }

/-- The declaration records the loss, and then takes the action of the fault. -/
theorem declareLoss_eq : declareLoss s = applyStop .converterSyncLost .stop (recordLoss s) := rfl

/-- Outside the running modes a loss is only recorded (R180). -/
theorem declareLoss_idle (h : s.run.mode.running = false) : declareLoss s = recordLoss s :=
  declareLoss_eq.trans (applyStop_idle _ _ (by simpa [recordLoss] using h))

/-- In a running mode the part stops at a loss (R180). -/
theorem declareLoss_running (h : s.run.mode.running = true) :
    declareLoss s = leaveRunning .stopped (.fault .converterSyncLost) (recordLoss s) :=
  declareLoss_eq.trans (applyStop_running _ (by simpa [recordLoss] using h))

/-- The declaration's end, by the mode of the state in which it is made. -/
theorem declareLoss_next {r : Result} {u : State} (h : r = .next (settle (declareLoss u))) :
    (u.run.mode = .standby ∨ u.run.mode = .stopped → r = .next (settle (recordLoss u))) ∧
    (u.run.mode = .run ∨ u.run.mode = .holding ∨ u.run.mode = .held →
      r = .next (settle (leaveRunning .stopped (.fault .converterSyncLost) (recordLoss u)))) :=
  ⟨fun idle => h.trans (next_settle (declareLoss_idle (running_eq_false_iff.mpr idle))),
    fun runs => h.trans (next_settle (declareLoss_running (running_iff.mpr runs)))⟩

/-- Settles O51: the items of a raise are read off, the millisecond is the recursion of `lapse`, and the mode in which the loss is declared
decides between the record alone and the stop. -/
theorem faultsAreRecorded : Obligations.FaultsAreRecorded := by
  refine ⟨fun _ _ _ _ _ _ _ _ h => recordFault_eq _ _ _ _ _ _ _ h, fun _ => exec_converterSyncLost_of_lost, fun _ => rfl, fun _ _ => rfl,
    fun k _ => lapse_nothingDue k, fun s sync => ?_⟩
  exact declareLoss_next (exec_converterSyncLost_of_sync sync)

end Sys2Proof.Machine
end

section
/-! PROOFS. CLEAR_FAULT and RESET_PART (R183, R184). -/

namespace Sys2Proof.Machine

open Sys2Proof

variable {s : State}

/-! ## A change of mode (R171) -/

/-- A change of mode leaves a reply its slot in the Result Queue (R193). -/
theorem withMode_results_length (m : Mode) (c : ModeCause) (h : s.port.results.length < 48) :
    (s.withMode m c).port.results.length < 48 :=
  (handOver_length (s := s) (.modeChanged s.run.mode m c)).trans_lt (max_lt h (by decide))

/-! ## CLEAR_FAULT (R183) -/

/-- CLEAR_FAULT in LOST is refused. -/
theorem handleClearFault_lost (h : s.conv.inSync = false) : handleClearFault s = refuse .conditionPresent s := by
  simp [handleClearFault, h]

/-- CLEAR_FAULT in sync clears the faults, and outside STOPPED leaves the mode. -/
theorem handleClearFault_not_stopped (h : s.conv.inSync = true) (mode : s.run.mode ≠ .stopped) :
    handleClearFault s = accept (clearFaults s) := by
  simp [handleClearFault, h, mode]

/-- CLEAR_FAULT in STOPPED takes the part to STANDBY as well. -/
theorem handleClearFault_stopped (h : s.conv.inSync = true) (mode : s.run.mode = .stopped) :
    handleClearFault s = accept ((clearFaults s).withMode .standby .clearFault) := by
  simp only [handleClearFault, h, mode, if_true]
  rfl

/-! ## RESET_PART (R184) -/

/-- The levels of the inputs. -/
def Inputs.levels (i : Inputs) : Levels :=
  ⟨i.present.map (·.level), i.clamp.map (·.level), i.engEnable.level, i.alertClr.level, i.markerReady.level⟩

/-- RESET_PART sets the inputs as the release of RESET_N does from their levels (R2). -/
theorem Inputs.relatch_eq_powerOn (i : Inputs) : i.relatch = .powerOn i.levels := by
  simp [relatch, powerOn, levels, Function.comp_def]

/-- The state that RESET_PART leaves is that of the release of RESET_N, but for what R184 keeps. -/
theorem resetPart_eq_powerOn :
    resetPart s =
      let fresh := State.powerOn s.inputs.levels s.pending
      { fresh with
        tables := s.tables
        lot := { fresh.lot with
          isOpen := s.lot.isOpen, lotId := s.lot.lotId, serialPrefix := s.lot.serialPrefix, nextSerial := s.lot.nextSerial
          exhausted := s.lot.exhausted, counts := s.lot.counts }
        run := { fresh.run with history := s.run.history, count := s.run.count }
        conv := { fresh.conv with inSync := s.conv.inSync }
        port := { fresh.port with sending := s.port.sending, upstream := s.port.upstream } } := by
  rw [resetPart, Inputs.relatch_eq_powerOn]
  rfl

/-- RESET_PART is for the access level ENGINEER (R184, R194). -/
theorem handleResetPart_eq :
    handleResetPart s = if s.inputs.engEnable.debounced = true then accept (resetPart s) else refuse .notPermitted s := rfl

/-- Settles O55: the two commands by their conditions, and the state after RESET_PART compared with the fresh one block by block. -/
theorem clearFaultAndResetPart : Obligations.ClearFaultAndResetPart := by
  intro tag s hs
  have ⟨_, _, place⟩ := hs
  refine ⟨fun lost => ?_, fun sync mode => ?_, fun sync mode => ?_, fun locked => ?_, fun engineer => ?_⟩
  · exact next_settle (arrive_refused hs (handleClearFault_lost lost))
  · exact next_settle (arrive_answered hs (handleClearFault_not_stopped sync mode) place)
  · exact next_settle (arrive_answered hs (handleClearFault_stopped sync mode) (withMode_results_length _ _ place))
  · exact next_settle (arrive_refused hs (handleResetPart_eq.trans (if_neg (by simp [locked]))))
  · have accepted : handleCommand tag .resetPart s = accept (resetPart s) := handleResetPart_eq.trans (if_pos engineer)
    have room : (resetPart s).port.results.length < 48 := Nat.zero_lt_succ 47
    exact next_settle ((arrive_answered hs accepted room).trans (congrArg (State.withReply · tag .ok .none) resetPart_eq_powerOn))

end Sys2Proof.Machine
end

section
/-! PROOFS. The bound of a validation (R173): the events that leave it as it is, and the 50 ms that the due events hold before time goes on
(log entry 23). -/

namespace Sys2Proof.Machine

open Sys2Proof

variable {s t : State}

/-! ## What leaves the validation as it is (R171, R173) -/

/-- The leaving of a running mode changes only the mode of the Run Controller (R178). -/
@[simp] theorem leaveRunning_run (m : Mode) (c : ModeCause) : (leaveRunning m c s).run = { s.run with mode := m } := by
  simp [leaveRunning]

/-- The start of a run changes only the mode of the Run Controller (R175). -/
@[simp] theorem enterRun_run : (enterRun s).run = { s.run with mode := .run } := by
  simp [enterRun]

/-- A fault's record leaves the validation. -/
@[simp] theorem recordFault_validation {k : FaultKind} {d : FaultDetail} {n : Option NestId} {a b c : Option Nat} {x : Action} :
    (recordFault k d n a b c x s).run.validation = s.run.validation := by
  simp [recordFault]

/-- The mode effect of a fault leaves the validation. -/
@[simp] theorem applyStop_validation (k : FaultKind) (a : Action) : (applyStop k a s).run.validation = s.run.validation := by
  unfold applyStop
  split <;> simp

/-- The record of a PERMIT_TIMEOUT leaves the validation. -/
@[simp] theorem recordTimeout_validation (a : Action) : (recordTimeout a s).run.validation = s.run.validation := by
  simp [recordTimeout]

/-- A declared loss of sync leaves the validation. -/
@[simp] theorem declareLoss_validation : (declareLoss s).run.validation = s.run.validation := by
  simp [declareLoss]

/-- A failure on the marker line leaves the validation. -/
@[simp] theorem markerFailure_validation (f : MarkerFailure) : (markerFailure f s).run.validation = s.run.validation := by
  unfold markerFailure
  split <;> simp [raiseMarkerFault]

/-- The arrival of the permit leaves the validation. -/
theorem permitArrival_validation (h : permitArrival s = some t) : t.run.validation = s.run.validation := by
  unfold permitArrival at h
  (repeat' split at h) <;> cases h <;> simp

/-- A PERMIT_TIMEOUT leaves the validation. -/
theorem permitTimeout_validation (h : permitTimeout s = some t) : t.run.validation = s.run.validation := by
  unfold permitTimeout at h
  dsimp only at h
  (repeat' split at h) <;> cases h <;> simp

/-- A DISPOSAL_STALL leaves the validation. -/
theorem disposalStall_validation {n : NestId} (h : disposalStall n s = some t) : t.run.validation = s.run.validation := by
  unfold disposalStall at h
  (repeat' split at h) <;> cases h
  simp

/-- A NAK leaves the validation. -/
theorem takeNak_validation (h : takeNak s = some t) : t.run.validation = s.run.validation := by
  unfold takeNak at h
  split at h <;> cases h
  simp

/-- A REPLY_TIMEOUT leaves the validation. -/
theorem replyTimeout_validation (h : replyTimeout s = some t) : t.run.validation = s.run.validation := by
  unfold replyTimeout at h
  split at h <;> cases h
  simp

/-- HELD_REACHED leaves the validation. -/
theorem heldReached_validation (h : heldReached s = some t) : t.run.validation = s.run.validation := by
  unfold heldReached at h
  split at h <;> cases h
  simp

/-- A disposal reservation leaves the Run Controller. -/
theorem reserveNext_run (h : reserveNext s = some t) : t.run = s.run := by
  obtain ⟨n, _, hn⟩ := List.exists_of_findSome?_eq_some h
  rcases disposeNest_cases hn with ⟨r, d, rfl⟩ | ⟨r, rfl⟩ <;> simp

/-- The disposal of a graded unit leaves the Run Controller. -/
theorem disposal_run {n : NestId} (h : disposal n s = some t) : t.run = s.run := by
  obtain ⟨r, _, hd⟩ := Option.bind_eq_some_iff.mp h
  obtain ⟨d, _, rfl⟩ := Option.map_eq_some_iff.mp hd
  simp

/-- The disposal of an aborted unit leaves the Run Controller. -/
theorem abortedDisposal_run {n : NestId} (h : abortedDisposal n s = some t) : t.run = s.run := by
  obtain ⟨r, _, hr⟩ := Option.bind_eq_some_iff.mp h
  split at hr <;> cases hr
  simp

/-- The holds that a write completes leave the Run Controller. -/
@[simp] theorem completeHolds_run : (completeHolds s).run = s.run := by
  unfold completeHolds
  refine List.foldlRecOn (motive := fun (t : State) => t.run = s.run) _ _ rfl fun t ht i _ => ?_
  rcases attempt_cases (debouncedEdge i) t with ⟨_, stays⟩ | taken
  · rw [stays, ht]
  · simp [debouncedEdge_frame i taken, ht]

/-- A reply leaves the Run Controller. -/
@[simp] theorem reply_run (tag : Byte) (a : State × Answer) : (reply tag a).run = a.1.run := by
  unfold reply
  split <;> rfl

/-- A table write leaves the validation. -/
theorem handleWriteTable_validation (w : TableWrite) : (handleWriteTable w s).1.run.validation = s.run.validation := by
  have locked : (writeLocked w s).1.run.validation = s.run.validation := by
    unfold writeLocked
    (repeat' split) <;> simp [refuse, accept, clearMark]
  cases w with
  | unknown k => rfl
  | tap i r =>
    simp only [handleWriteTable]
    split <;> rfl
  | _ => exact locked

/-! ## A bound on the time of a validation (R173) -/

/-- The validation in flight, if there is one, has lasted at most `k` frame periods of the reference clock. -/
def ValidatesWithin (k : Nat) (s : State) : Prop := ∀ v, s.run.validation = some v → v.elapsed ≤ k

variable {k : Nat}

/-- What leaves the validation keeps the bound. -/
theorem ValidatesWithin.of_eq (hs : ValidatesWithin k s) (h : t.run.validation = s.run.validation) : ValidatesWithin k t :=
  fun v hv => hs v (h ▸ hv)

/-- With no validation in flight every bound is met. -/
theorem ValidatesWithin.of_idle (h : s.run.validation = none) : ValidatesWithin k s := by
  intro v hv
  simp [h] at hv

/-- START_RUN begins a validation that has lasted no time (R173). -/
theorem handleStartRun_within (tag : Byte) (hs : ValidatesWithin k s) : ValidatesWithin k (handleStartRun tag s).1 := by
  unfold handleStartRun
  (repeat' split)
  · exact hs
  · exact hs
  · exact hs
  · exact hs.of_eq (by simp [accept])
  · rintro v ⟨⟩
    exact Nat.zero_le k

/-- START_RUN may begin a validation and RESET_PART ends it; every other command leaves it as it is (R173, R184). -/
theorem handleCommand_within (tag : Byte) (c : Command) (hs : ValidatesWithin k s) : ValidatesWithin k (handleCommand tag c s).1 := by
  cases c
  case startRun => exact handleStartRun_within tag hs
  case resetPart =>
    simp only [handleCommand, handleResetPart]
    split
    · exact .of_idle rfl
    · exact hs
  all_goals refine hs.of_eq ?_
  case writeTable w => exact handleWriteTable_validation w
  case stopRun | holdSmart | holdForce | resume =>
    simp only [handleCommand, handleStopRun, handleHoldSmart, handleHoldForce, handleResume]
    split <;> simp [refuse, accept]
  case newLot | startUnit | abortUnit =>
    simp only [handleCommand, handleNewLot, handleStartUnit, handleAbortUnit]
    (repeat' split) <;> simp [refuse, accept]
  case clearFault =>
    simp only [handleCommand, handleClearFault]
    split
    · rfl
    · simp only [accept]
      split <;> simp [clearFaults]
  case readTable | clearNestAlert | readNest =>
    simp only [handleCommand, handleReadTable, handleClearNestAlert, handleReadNest]
    split <;> rfl
  case readStatus | readLot | readFaults => rfl
  all_goals
    simp only [handleCommand, handleSetNotices, handleClearNotices, handleSetAlerts, handleClearAlerts, handleAckAlerts, handleKinds]
    split <;> rfl

/-- A command taken keeps the bound. -/
theorem takeCommand_validatesWithin (b : Buffered) (hs : ValidatesWithin k s) : ValidatesWithin k (takeCommand b s) := by
  have handled : ValidatesWithin k (handleRequest b.tag b.request s).1 := by
    unfold handleRequest
    split
    · exact hs
    · exact hs
    · exact handleCommand_within b.tag _ hs
  exact handled.of_eq (by rw [takeCommand, reply_run])

/-- The arrival of a message keeps the bound. -/
theorem arrive_validatesWithin (b : Buffered) (hs : ValidatesWithin k s) : ValidatesWithin k (arrive b s) := by
  unfold arrive
  split
  · exact takeCommand_validatesWithin b hs
  · split <;> exact hs

/-- The service of the Command Buffer keeps the bound. -/
theorem serve_validatesWithin (hs : ValidatesWithin k s) (h : serve s = some t) : ValidatesWithin k t := by
  unfold serve at h
  (repeat' split at h) <;> cases h
  exact takeCommand_validatesWithin _ hs

/-- The completion of a validation leaves none in flight. -/
theorem validationCompletion_idle (h : validationCompletion s = some t) : t.run.validation = none := by
  unfold validationCompletion at h
  split at h
  · cases h
  · split at h <;> cases h
    · simp [endValidation]
    · split <;> simp [endValidation, accept, refuse]

/-- The completion at the bound leaves none in flight. -/
theorem validationOverdue_idle (h : validationOverdue s = some t) : t.run.validation = none := by
  unfold validationOverdue at h
  split at h
  · exact validationCompletion_idle h
  · cases h

/-- An event that leaves the validation keeps the bound. -/
theorem validatesWithin_of_leaves {event : State → Option State}
    (h : ∀ {s t}, event s = some t → t.run.validation = s.run.validation) :
    ∀ s t, ValidatesWithin k s → event s = some t → ValidatesWithin k t :=
  fun _ _ hs taken => hs.of_eq (h taken)

/-- Every consequence of an event keeps the bound. -/
theorem internals_validatesWithin : ∀ event ∈ internals, ∀ s t, ValidatesWithin k s → event s = some t → ValidatesWithin k t := by
  have zero (n : NestId) : ∀ s t, ValidatesWithin k s → zeroSettle n s = some t → ValidatesWithin k t :=
    validatesWithin_of_leaves fun h => by simp [zeroSettle_frame n h]
  have retry (n : NestId) : ∀ s t, ValidatesWithin k s → retryStart n s = some t → ValidatesWithin k t :=
    validatesWithin_of_leaves fun h => by simp [retryStart_frame n h]
  have grade (n : NestId) : ∀ s t, ValidatesWithin k s → grading n s = some t → ValidatesWithin k t :=
    validatesWithin_of_leaves fun h => by simp [grading_frame n h]
  simp only [internals, List.forall_mem_cons]
  exact ⟨validatesWithin_of_leaves fun h => by simp [permitPass_frame h], validatesWithin_of_leaves fun h => by simp [quietGrant_frame h],
    validatesWithin_of_leaves fun h => by simp [loudGatePass_frame h], validatesWithin_of_leaves fun h => by simp [waitTimerChange_frame h],
    validatesWithin_of_leaves fun h => by simp [windowClose_frame h], validatesWithin_of_leaves fun h => by simp [pairGrant_frame h],
    zero 0, zero 1, zero 2, zero 3, retry 0, retry 1, retry 2, retry 3, grade 0, grade 1, grade 2, grade 3,
    validatesWithin_of_leaves fun h => by simp [figureUnitTake_frame h], validatesWithin_of_leaves fun h => by rw [reserveNext_run h],
    validatesWithin_of_leaves fun h => by simp [markerFrameStart_frame h], validatesWithin_of_leaves fun h => by simp [waitingReply_frame h],
    validatesWithin_of_leaves fun h => by simp [reportsDropped_frame h], validatesWithin_of_leaves heldReached_validation,
    fun _ _ hs served => serve_validatesWithin hs served, by simp⟩

/-- The completion of a computation at its bound leaves the Run Controller. -/
theorem computationOverdue_run (h : computationOverdue s = some t) : t.run = s.run := by
  unfold computationOverdue at h
  split at h
  · simp [figureUnitCompletion_frame h]
  · cases h

/-- Every due event keeps the bound. -/
theorem dueEvents_validatesWithin : ∀ event ∈ dueEvents, ∀ s t, ValidatesWithin k s → event s = some t → ValidatesWithin k t := by
  have settled (n : NestId) : ∀ s t, ValidatesWithin k s → settleEnd n s = some t → ValidatesWithin k t :=
    validatesWithin_of_leaves fun h => by simp [settleEnd_frame n h]
  have opened (n : NestId) : ∀ s t, ValidatesWithin k s → windowOpen n s = some t → ValidatesWithin k t :=
    validatesWithin_of_leaves fun h => by simp [windowOpen_frame n h]
  have last (n : NestId) : ∀ s t, ValidatesWithin k s → lastWindowFrame n s = some t → ValidatesWithin k t :=
    validatesWithin_of_leaves fun h => by simp [lastWindowFrame_frame n h]
  have windowless (n : NestId) : ∀ s t, ValidatesWithin k s → windowlessStepEnd n s = some t → ValidatesWithin k t :=
    validatesWithin_of_leaves fun h => by simp [windowlessStepEnd_frame n h]
  have stall (n : NestId) : ∀ s t, ValidatesWithin k s → disposalStall n s = some t → ValidatesWithin k t :=
    validatesWithin_of_leaves disposalStall_validation
  have edges : ∀ event ∈ allInputs.map debouncedEdge, ∀ s t, ValidatesWithin k s → event s = some t → ValidatesWithin k t :=
    List.forall_mem_map.mpr fun i _ => validatesWithin_of_leaves fun h => by simp [debouncedEdge_frame i h]
  simp only [dueEvents, List.forall_mem_append, List.forall_mem_cons]
  exact ⟨⟨validatesWithin_of_leaves fun h => by rw [computationOverdue_run h], fun _ _ _ h => .of_idle (validationOverdue_idle h),
    settled 0, opened 0, last 0, windowless 0, settled 1, opened 1, last 1, windowless 1,
    settled 2, opened 2, last 2, windowless 2, settled 3, opened 3, last 3, windowless 3,
    validatesWithin_of_leaves fun h => by simp [guardBlockEnd_frame h], validatesWithin_of_leaves permitArrival_validation,
    validatesWithin_of_leaves fun h => by simp [permitPulseEnd_frame h], validatesWithin_of_leaves fun h => by simp [permitGapEnd_frame h],
    validatesWithin_of_leaves fun h => by simp [holdLimitExpiry_frame h], validatesWithin_of_leaves permitTimeout_validation,
    stall 0, stall 1, stall 2, stall 3, validatesWithin_of_leaves replyTimeout_validation, by simp⟩, edges⟩

/-- The operations of every row keep the bound; only the passing of time does not. -/
theorem validatesWithin_kept (k : Nat) : KeptWithin (ValidatesWithin k) where
  powerOn _ _ := .of_idle rfl
  pending _ _ hs := hs
  consequence := internals_validatesWithin
  due := dueEvents_validatesWithin
  completion := validatesWithin_of_leaves fun h => by simp [figureUnitCompletion_frame h]
  validated _ _ _ h := .of_idle (validationCompletion_idle h)
  graded _ := validatesWithin_of_leaves fun h => by rw [disposal_run h]
  aborted _ := validatesWithin_of_leaves fun h => by rw [abortedDisposal_run h]
  sent := validatesWithin_of_leaves fun h => by simp [sendCompletion_frame h]
  ack := validatesWithin_of_leaves fun h => by simp [takeAck_frame h]
  nak := validatesWithin_of_leaves takeNak_validation
  level _ _ _ hs := hs
  latch _ hs := hs
  loss _ hs := hs.of_eq declareLoss_validation
  leave _ _ _ _ hs := hs
  sending _ _ hs := hs
  upstream _ _ hs := hs
  assembly _ _ hs := hs
  holdOff _ _ hs := hs
  badMessage _ hs := hs
  badFrame _ hs := hs
  arrive b _ hs := arrive_validatesWithin b hs

/-! ## The bound before time goes on (R173, log entry 23) -/

/-- Within 50 ms no completion is due. -/
theorem validationOverdue_of_lt {v : Validation} (h : s.run.validation = some v) (early : v.elapsed < 50 * 96) :
    validationOverdue s = none := by
  have notDue : ¬ms Config.validationMs ≤ v.elapsed := not_le.mpr early
  simp [validationOverdue, h, notDue]

/-- From 50 ms on the completion is due. -/
theorem validationOverdue_of_le {v : Validation} (h : s.run.validation = some v) (late : 50 * 96 ≤ v.elapsed) :
    validationOverdue s = validationCompletion s := by
  have due : ms Config.validationMs ≤ v.elapsed := late
  simp [validationOverdue, h, due]

/-- With a validation in flight there is a completion. -/
theorem validationCompletion_isSome {v : Validation} (h : s.run.validation = some v) : ∃ t, validationCompletion s = some t := by
  unfold validationCompletion
  rw [h]
  dsimp only
  split <;> exact ⟨_, rfl⟩

/-- The bound's own event leaves no validation of 50 ms. -/
theorem happen_validationOverdue_within : ValidatesWithin 4799 (happen validationOverdue s) := by
  cases hv : s.run.validation with
  | none =>
    have idle : validationOverdue s = none := by simp [validationOverdue, hv]
    rw [happen_none idle]
    exact .of_idle hv
  | some v =>
    by_cases early : v.elapsed < 50 * 96
    · rw [happen_none (validationOverdue_of_lt hv early)]
      rintro w hw
      cases hv.symm.trans hw
      exact Nat.le_of_lt_succ early
    · obtain ⟨t, ht⟩ := validationCompletion_isSome hv
      rw [happen_some ((validationOverdue_of_le hv (not_lt.mp early)).trans ht)]
      exact (validatesWithin_kept 4799).settles (.of_idle (validationCompletion_idle ht))

/-- Before time goes on no validation has lasted 50 ms. -/
theorem flush_validatesWithin : ValidatesWithin 4799 (flush s) := by
  have order : dueEvents = computationOverdue :: validationOverdue :: dueEvents.tail.tail := rfl
  rw [flush, order, List.foldl_cons, List.foldl_cons]
  refine List.foldlRecOn (motive := ValidatesWithin 4799) dueEvents.tail.tail _ happen_validationOverdue_within fun u hu event hm => ?_
  exact (validatesWithin_kept 4799).happens (dueEvents_validatesWithin event (List.mem_of_mem_tail (List.mem_of_mem_tail hm))) hu

/-- A frame period counts for the validation in flight. -/
theorem tick_validatesWithin (hs : ValidatesWithin k s) : ValidatesWithin (k + 1) (tick 1 s) := by
  intro v hv
  obtain ⟨w, hw, rfl⟩ := Option.map_eq_some_iff.mp hv
  exact Nat.succ_le_succ (hs w hw)

/-- No row of the table lets a validation last longer than 50 ms. -/
theorem exec_validatesWithin (i : Instr) (hs : ValidatesWithin 4800 s) (h : exec i s = .next t) : ValidatesWithin 4800 t := by
  have period (u : State) : ValidatesWithin 4800 (tick 1 (flush u)) := tick_validatesWithin flush_validatesWithin
  exact (validatesWithin_kept 4800).exec_keeps_after_flush (fun u _ => period u) (fun _ _ u _ => (period u).of_eq rfl) i hs h

end Sys2Proof.Machine
end

section
/-! PROOFS. The run commands (R172, R173, R176 to R178), the completion of a validation (R173) and HELD_REACHED (R176). -/

namespace Sys2Proof.Machine

open Sys2Proof

variable {s u : State}

/-! ## The completion of a validation (R173) -/

/-- A reply stands at the tail of the Result Queue where a reply slot is available, and waits otherwise (R193, R194). -/
theorem reply_eq_ite (tag : Byte) (code : ReplyCode) (data : ReplyData) :
    reply tag (u, some (code, data)) =
      if u.port.results.length < 48 then u.withReply tag code data else u.setPort { u.port with waiting := some ⟨tag, code, data⟩ } := by
  simp only [reply, Port.answer, replyAvailable_iff]
  split <;> rfl

section
variable {v : Validation} (flying : s.run.validation = some v)
include flying

/-- A failure found is reported, and changes nothing else but the end of the validation. -/
theorem validationCompletion_of_failure {f : Failure} (found : validate s.tables = some f) :
    validationCompletion s =
      some (reply v.tag (s.setRun { s.run with validation := none }, some (.tableInvalid, .invalid f.detail f.index))) := by
  simp only [validationCompletion, flying, found]
  rfl

/-- Valid tables are marked, and in sync the part enters RUN. -/
theorem validationCompletion_of_valid_sync (valid : validate s.tables = none) (sync : s.conv.inSync = true) :
    validationCompletion s =
      some (reply v.tag (accept (enterRun (s.setRun { s.run with validation := none, mark := true })))) := by
  simp only [validationCompletion, flying, valid, sync, if_true]
  rfl

/-- Valid tables are marked, and in LOST the start is refused. -/
theorem validationCompletion_of_valid_lost (valid : validate s.tables = none) (lost : s.conv.inSync = false) :
    validationCompletion s =
      some (reply v.tag (refuse .conditionPresent (s.setRun { s.run with validation := none, mark := true }))) := by
  simp only [validationCompletion, flying, valid, lost]
  rfl

end

/-- A completion ends in its answer, which is placed or waits. -/
theorem exec_validationCompletion {tag : Byte} {code : ReplyCode} {data : ReplyData}
    (h : validationCompletion s = some (reply tag (u, some (code, data)))) :
    exec .validationCompletion s = .next (settle
      (if u.port.results.length < 48 then u.withReply tag code data
      else u.setPort { u.port with waiting := some ⟨tag, code, data⟩ })) :=
  congrArg Host.Outcome.next ((happen_some h).trans (congrArg settle (reply_eq_ite tag code data)))

/-! ## The commands (R172) -/

/-- START_RUN: its refusals in order, the entry into RUN, and the start of a validation. -/
theorem handleStartRun_eq (tag : Byte) :
    handleStartRun tag s =
      if s.run.mode ≠ .standby then refuse .wrongMode s
      else if s.run.validation ≠ none then refuse .busy s
      else if s.conv.inSync = false then refuse .conditionPresent s
      else if s.run.mark = true then accept (enterRun s)
      else (s.setRun { s.run with validation := some ⟨tag, 0⟩ }, none) := by
  simp [handleStartRun, Option.isSome_iff_ne_none]

/-- The start of a run leaves a reply its slot in the Result Queue: with MODE_CHANGED and YIELD_RECOVERED it offers only notices (R193). -/
theorem enterRun_results_length (h : s.port.results.length < 48) : (enterRun s).port.results.length < 48 := by
  refine withMode_results_length .run .startRun ?_
  unfold lotRunStart recoveredBy
  dsimp only
  (repeat' split)
  · simpa using h
  · exact (handOver_length _).trans_lt (max_lt (by simpa using h) (by decide))
  · simpa using h

/-- The leaving of a running mode leaves a reply its slot in the Result Queue. -/
theorem leaveRunning_results_length (m : Mode) (c : ModeCause) (h : s.port.results.length < 48) :
    (leaveRunning m c s).port.results.length < 48 :=
  withMode_results_length m c (by simpa using h)

/-- HOLD FORCE leaves a reply its slot in the Result Queue. -/
theorem holdForce_results_length (h : s.port.results.length < 48) :
    ((abortAll .holdForced s).withMode .held .holdForce).port.results.length < 48 :=
  withMode_results_length _ _ (by simpa using h)

/-- A START_RUN that begins a validation is not answered yet (R173). -/
theorem arrive_unanswered {tag : Byte} {c : Command} (h : Serving s) (handled : handleCommand tag c s = (u, none)) :
    arrive ⟨tag, .command c⟩ s = u := by
  rw [arrive_serving h, takeCommand, handleRequest, handled, reply]

/-- START_RUN by its conditions (R172, R173). -/
theorem arrive_startRun {tag : Byte} (h : Serving s) :
    arrive ⟨tag, .command .startRun⟩ s =
      if s.run.mode ≠ .standby then s.withReply tag .wrongMode .none
      else if s.run.validation ≠ none then s.withReply tag .busy .none
      else if s.conv.inSync = false then s.withReply tag .conditionPresent .none
      else if s.run.mark = true then (enterRun s).withReply tag .ok .none
      else s.setRun { s.run with validation := some ⟨tag, 0⟩ } := by
  have handled : handleCommand tag .startRun s = _ := handleStartRun_eq tag
  have ⟨_, _, place⟩ := h
  split_ifs at handled ⊢
  · exact arrive_refused h handled
  · exact arrive_refused h handled
  · exact arrive_refused h handled
  · exact arrive_answered h handled (enterRun_results_length place)
  · exact arrive_unanswered h handled

/-- STOP_RUN by its conditions (R172, R178). -/
theorem arrive_stopRun {tag : Byte} (h : Serving s) :
    arrive ⟨tag, .command .stopRun⟩ s =
      if s.run.mode.running = true then (leaveRunning .standby .stopRun s).withReply tag .ok .none
      else s.withReply tag .wrongMode .none := by
  have ⟨_, _, place⟩ := h
  split
  · next runs => exact arrive_answered h (if_pos runs) (leaveRunning_results_length _ _ place)
  · next idle => exact arrive_refused h (if_neg idle)

/-- HOLD SMART by its conditions (R172, R176). -/
theorem arrive_holdSmart {tag : Byte} (h : Serving s) :
    arrive ⟨tag, .command .holdSmart⟩ s =
      if s.run.mode = .run then (s.withMode .holding .holdSmart).withReply tag .ok .none
      else s.withReply tag .wrongMode .none := by
  have ⟨_, _, place⟩ := h
  split
  · next mode => exact arrive_answered h (if_pos mode) (withMode_results_length _ _ place)
  · next mode => exact arrive_refused h (if_neg mode)

/-- HOLD FORCE by its conditions: it aborts every unit under test (R172, R177). -/
theorem arrive_holdForce {tag : Byte} (h : Serving s) :
    arrive ⟨tag, .command .holdForce⟩ s =
      if s.run.mode = .run ∨ s.run.mode = .holding then
        ((abortAll .holdForced s).withMode .held .holdForce).withReply tag .ok .none
      else s.withReply tag .wrongMode .none := by
  have ⟨_, _, place⟩ := h
  split
  · next mode => exact arrive_answered h (if_pos mode) (holdForce_results_length place)
  · next mode => exact arrive_refused h (if_neg mode)

/-- RESUME by its conditions (R172, R177). -/
theorem arrive_resume {tag : Byte} (h : Serving s) :
    arrive ⟨tag, .command .resume⟩ s =
      if s.run.mode = .holding ∨ s.run.mode = .held then (s.withMode .run .resume).withReply tag .ok .none
      else s.withReply tag .wrongMode .none := by
  have ⟨_, _, place⟩ := h
  split
  · next mode => exact arrive_answered h (if_pos mode) (withMode_results_length _ _ place)
  · next mode => exact arrive_refused h (if_neg mode)

/-! ## HELD_REACHED (R176) -/

/-- A holding part with no unit in flight enters HELD. -/
theorem heldReached_of_empty (holding : s.run.mode = .holding)
    (landed : ∀ n : NestId, (s.nest n).state = .empty ∨ (s.nest n).state = .loaded ∨ (s.nest n).state = .disposed) :
    heldReached s = some (s.withMode .held .heldReached) := by
  have none_inFlight : (nestIds.all fun n => !(s.nest n).state.inFlight) = true := by
    refine List.all_eq_true.mpr fun n _ => ?_
    rcases landed n with state | state | state <;> simp [state, NestState.inFlight]
  simp only [heldReached, holding, none_inFlight]
  rfl

/-- Settles O53: the commands by their conditions, the completion by what validation finds, and the bound of 50 ms by the induction over
the table. -/
theorem runCommands : Obligations.RunCommands := by
  refine ⟨fun tag s hs => ⟨?_, ?_, ?_, ?_, ?_, ?_, ?_, ?_, ?_, ?_, ?_, ?_, ?_⟩, fun v s flying => ⟨?_, ?_, ?_⟩, by simp [dueEvents],
    fun v s flying => ⟨validationOverdue_of_lt flying, validationOverdue_of_le flying⟩, fun i s t => exec_validatesWithin i, ?_⟩
  · exact fun mode => next_settle ((arrive_startRun hs).trans (by simp [mode]))
  · exact fun mode flying => next_settle ((arrive_startRun hs).trans (by simp [mode, flying]))
  · exact fun mode idle lost => next_settle ((arrive_startRun hs).trans (by simp [mode, idle, lost]))
  · exact fun mode idle sync marked => next_settle ((arrive_startRun hs).trans (by simp [mode, idle, sync, marked]))
  · exact fun mode idle sync unmarked => next_settle ((arrive_startRun hs).trans (by simp [mode, idle, sync, unmarked]))
  · exact fun runs => next_settle ((arrive_stopRun hs).trans (if_pos (running_iff.mpr runs)))
  · exact fun idle => next_settle ((arrive_stopRun hs).trans (if_neg fun runs => idle (running_iff.mp runs)))
  · exact fun mode => next_settle ((arrive_holdSmart hs).trans (if_pos mode))
  · exact fun mode => next_settle ((arrive_holdSmart hs).trans (if_neg mode))
  · exact fun mode => next_settle ((arrive_holdForce hs).trans (if_pos mode))
  · exact fun mode => next_settle ((arrive_holdForce hs).trans (if_neg mode))
  · exact fun mode => next_settle ((arrive_resume hs).trans (if_pos mode))
  · exact fun mode => next_settle ((arrive_resume hs).trans (if_neg mode))
  · exact fun f found => exec_validationCompletion (validationCompletion_of_failure flying found)
  · exact fun valid sync => exec_validationCompletion (validationCompletion_of_valid_sync flying valid sync)
  · exact fun valid lost => exec_validationCompletion (validationCompletion_of_valid_lost flying valid lost)
  · exact fun s holding landed => congrArg _ (happen_some (heldReached_of_empty holding landed))

end Sys2Proof.Machine
end

section
/-! PROOFS. The checks of validation (R173, R174): the entries of a table in ascending index, and a list of failures as the checks that
fail, each with its detail code. -/

namespace Sys2Proof.Machine

open Sys2Proof

/-! ## The entries of a table -/

section
variable {α β : Type} {n : Nat}

/-- The entries of a list with their places. -/
theorem mem_indexed {l : List α} {k : Nat} {x : α} : (k, x) ∈ indexed l ↔ l[k]? = some x := by
  simp only [indexed, List.mem_iff_getElem, List.getElem_zip, List.getElem_range, Prod.mk.injEq, List.getElem?_eq_some_iff]
  constructor
  · rintro ⟨_, here, rfl, rfl⟩
    exact ⟨by simpa using here, rfl⟩
  · rintro ⟨here, rfl⟩
    exact ⟨k, by simpa using here, rfl, rfl⟩

/-- The places of a list's entries ascend. -/
theorem indexed_pairwise (l : List α) : (indexed l).Pairwise fun x y => x.1 < y.1 := by
  have places : (indexed l).map Prod.fst = List.range l.length := by
    simp [indexed, List.map_fst_zip]
  exact List.pairwise_map.mp (places ▸ List.pairwise_lt_range)

/-- A vector's entries with their places are those of its indices, in ascending order. -/
theorem indexed_toList (v : Vector α n) : indexed v.toList = (List.finRange n).map fun i => (i.val, v[i]) := by
  apply List.ext_getElem <;> simp [indexed]

/-- The defined entries of a vector with their places are those of its indices, in ascending order. -/
theorem defined_toList (v : Vector (Option α) n) :
    defined v.toList = (List.finRange n).flatMap fun i => v[i].toList.map fun x => (i.val, x) := by
  rw [defined, indexed_toList, List.filterMap_eq_flatMap_toList, List.flatMap_map]
  congr 1
  funext i
  cases v[i] <;> rfl

/-- What is found in the entries of a table, in ascending index. -/
theorem flatMap_indexed (v : Vector α n) (f : Nat → α → List β) :
    (indexed v.toList).flatMap (fun e => f e.1 e.2) = (List.finRange n).flatMap fun i : Fin n => f i v[i] := by
  rw [indexed_toList, List.flatMap_map]

/-- What is found in the defined entries of a table, in ascending index. -/
theorem flatMap_defined (v : Vector (Option α) n) (f : Nat → α → List β) :
    (defined v.toList).flatMap (fun e => f e.1 e.2) = (List.finRange n).flatMap fun i : Fin n => v[i].toList.flatMap (f i) := by
  rw [defined_toList, List.flatMap_assoc]
  congr 1
  funext i
  rw [List.flatMap_map]

/-- A defined entry of a table, at its place. -/
theorem mem_defined {v : Vector (Option α) n} {k : Nat} {x : α} :
    (k, x) ∈ defined v.toList ↔ ∃ i : Fin n, v[i] = some x ∧ i.val = k := by
  simp [defined_toList]

/-- The places of the defined entries of a table ascend. -/
theorem defined_pairwise (l : List (Option α)) : (defined l).Pairwise fun x y => x.1 < y.1 := by
  refine List.Pairwise.filterMap _ ?_ (indexed_pairwise l)
  intro x y below a ha b hb
  obtain ⟨_, _, rfl⟩ := Option.map_eq_some_iff.mp ha
  obtain ⟨_, _, rfl⟩ := Option.map_eq_some_iff.mp hb
  exact below

end

/-! ## The checks of an entry -/

/-- The failures of entry `i` are exactly its checks that fail, in ascending detail code. -/
def Exactly (i : Nat) (fs : List Failure) (checks : List (Nat × Prop)) : Prop :=
  (fs.map (·.detail)).Pairwise (· < ·) ∧ ∀ f : Failure, f ∈ fs ↔ f.index = i ∧ ∃ bad, (f.detail, bad) ∈ checks ∧ bad

section
variable {i d : Nat} {b : Bool} {p : Prop} {fs : List Failure} {cs : List (Nat × Prop)}

/-- A check has its failure exactly where it fails. -/
theorem mem_failIf {f : Failure} : f ∈ failIf b d i ↔ f.index = i ∧ f.detail = d ∧ b = true := by
  cases f
  unfold failIf
  split <;> simp_all [and_comm]

/-- No check, no failure. -/
theorem Exactly.nil : Exactly i [] [] := by
  simp [Exactly]

/-- One more check, before those of higher detail code. -/
theorem Exactly.cons (agree : b = true ↔ p) (rest : Exactly i fs cs) (below : ∀ c ∈ cs, d < c.1 := by simp) :
    Exactly i (failIf b d i ++ fs) ((d, p) :: cs) := by
  obtain ⟨ascends, found⟩ := rest
  refine ⟨?_, fun f => ?_⟩
  · rw [List.map_append, List.pairwise_append]
    refine ⟨by unfold failIf; split <;> simp, ascends, ?_⟩
    simp only [List.mem_map]
    rintro _ ⟨f, hf, rfl⟩ _ ⟨g, hg, rfl⟩
    obtain ⟨-, bad, listed, -⟩ := (found g).mp hg
    obtain ⟨-, here, -⟩ := mem_failIf.mp hf
    exact here ▸ below _ listed
  · rw [List.mem_append, mem_failIf, found, agree, ← and_or_left]
    simp only [List.mem_cons, Prod.mk.injEq, or_and_right, exists_or, and_assoc, exists_and_left, exists_eq_left]

/-- The last check. -/
theorem Exactly.last (agree : b = true ↔ p) : Exactly i (failIf b d i) [(d, p)] := by
  simpa using Exactly.cons agree (.nil (i := i)) (by simp)

end

/-! ## Conditions of the checks -/

/-- A number lies in a range, ends included. -/
abbrev Within (lo hi v : Int) : Prop := lo ≤ v ∧ v ≤ hi

/-- A text of printable characters. -/
abbrev PrintableText (t : Text) : Prop := ∀ b ∈ t, 32 ≤ b.toNat ∧ b.toNat ≤ 126

/-- The check of a range fails outside it. -/
theorem outside_iff {lo hi v : Int} : outside lo hi v = true ↔ ¬Within lo hi v := by
  simp only [outside, Bool.or_eq_true, decide_eq_true_iff, Within]
  omega

/-- The check of a text fails at a character that is not printable. -/
theorem all_printable_iff {t : Text} : t.all printable = true ↔ PrintableText t := by
  simp [printable]

/-- The check of a name fails where it is too long or not printable. -/
theorem not_isName_iff {k : Nat} {t : Text} : (!isName k t) = true ↔ k < t.length ∨ ¬PrintableText t := by
  simp [← Bool.not_eq_true, isName_iff, -not_and, not_and_or, PrintableText]

end Sys2Proof.Machine
end

section
/-! PROOFS. The spans of a plan and the checks of its entries (R29). -/

namespace Sys2Proof.Machine

open Sys2Proof

/-! ## The spans of a plan (section 2.3) -/

/-- The spans of a plan are those of its REPEAT entries. -/
theorem mem_spans {es : List PlanEntry} {first last : Nat} :
    (first, last) ∈ spans es ↔ ∃ back count, es[last]? = some (.again back count) ∧ first = last - back := by
  simp only [spans, List.mem_filterMap, Prod.exists, mem_indexed]
  constructor
  · rintro ⟨k, e, here, span⟩
    cases e <;> cases span
    exact ⟨_, _, here, rfl⟩
  · rintro ⟨back, count, here, rfl⟩
    exact ⟨last, _, here, rfl⟩

/-- The spans of a plan are in ascending order of their ends. -/
theorem spans_pairwise (es : List PlanEntry) : (spans es).Pairwise fun a b => a.2 < b.2 := by
  refine List.Pairwise.filterMap _ ?_ (indexed_pairwise es)
  rintro ⟨j, x⟩ ⟨k, y⟩ below a ha b hb
  cases x <;> cases ha
  cases y <;> cases hb
  exact below

/-- Two spans cross where they overlap and neither lies inside the other. -/
theorem crossing_iff {a b : Nat × Nat} (ha : a.1 ≤ a.2) :
    crossing a b = true ↔
      (a.1 < b.1 ∧ b.1 ≤ a.2 ∧ a.2 < b.2) ∨ (b.1 < a.1 ∧ a.1 ≤ b.2 ∧ b.2 < a.2) := by
  simp only [crossing, Bool.and_eq_true, Bool.not_eq_true', Bool.and_eq_false_iff, decide_eq_true_iff, decide_eq_false_iff_not]
  omega

/-- Some spans of a plan cross (104). -/
theorem any_crossing_iff {es : List PlanEntry} :
    ((spans es).any fun a => (spans es).any fun b => crossing a b) = true ↔
      ∃ a b c d, (a, b) ∈ spans es ∧ (c, d) ∈ spans es ∧ a < c ∧ c ≤ b ∧ b < d := by
  have ordered {a b : Nat} (h : (a, b) ∈ spans es) : a ≤ b := by
    obtain ⟨_, _, _, rfl⟩ := mem_spans.mp h
    exact Nat.sub_le ..
  simp only [List.any_eq_true, Prod.exists]
  constructor
  · rintro ⟨a, b, hab, c, d, hcd, cross⟩
    rcases (crossing_iff (ordered hab)).mp cross with inner | inner
    · exact ⟨a, b, c, d, hab, hcd, inner⟩
    · exact ⟨c, d, a, b, hcd, hab, inner⟩
  · rintro ⟨a, b, c, d, hab, hcd, inner⟩
    exact ⟨a, b, hab, c, d, hcd, (crossing_iff (ordered hab)).mpr (.inl inner)⟩

/-- A list in ascending order has more than two members exactly where it has three that ascend. -/
theorem two_lt_length_iff {α : Type} {f : α → Nat} {l : List α} (h : l.Pairwise fun a b => f a < f b) :
    2 < l.length ↔ ∃ x ∈ l, ∃ y ∈ l, ∃ z ∈ l, f x < f y ∧ f y < f z := by
  constructor
  · intro long
    match l, h, long with
    | x :: y :: z :: rest, h, _ =>
      simp only [List.pairwise_cons] at h
      exact ⟨x, by simp, y, by simp, z, by simp, h.1 y (by simp), h.2.1 z (by simp)⟩
  · rintro ⟨x, hx, y, hy, z, hz, hxy, hyz⟩
    have distinct : [x, y, z].Nodup := by
      have : x ≠ y := fun e => by simp [e] at hxy
      have : y ≠ z := fun e => by simp [e] at hyz
      have : x ≠ z := fun e => by subst e; omega
      simp [*]
    exact (List.subperm_of_subset distinct (by simp [hx, hy, hz])).length_le

/-- An entry lies in more than two spans exactly where it lies in three of different ends. -/
theorem two_lt_depthAt_iff {es : List PlanEntry} {e : Nat} :
    2 < depthAt (spans es) e ↔
      ∃ b c d, b < c ∧ c < d ∧ ∀ last ∈ [b, c, d], ∃ first, (first, last) ∈ spans es ∧ first ≤ e ∧ e ≤ last := by
  rw [depthAt, two_lt_length_iff (List.Pairwise.filter _ (spans_pairwise es))]
  simp only [List.mem_filter, Bool.and_eq_true, decide_eq_true_iff, Prod.exists, List.forall_mem_cons]
  constructor
  · rintro ⟨a, b, hb, a', c, hc, a'', d, hd, hbc, hcd⟩
    exact ⟨b, c, d, hbc, hcd, ⟨a, hb⟩, ⟨a', hc⟩, ⟨a'', hd⟩, by simp⟩
  · rintro ⟨b, c, d, hbc, hcd, ⟨a, hb⟩, ⟨a', hc⟩, ⟨a'', hd⟩, -⟩
    exact ⟨a, b, hb, a', c, hc, a'', d, hd, hbc, hcd⟩

/-! ## The checks of a plan (R29) -/

section
variable {es : List PlanEntry} {p : Nat × PlanEntry → Bool}

/-- A check of the SEGMENT entries fails at one of them (101). -/
theorem any_segment_iff {q : Nat → Prop} (segment : ∀ e k, p (e, .segment k) = true ↔ q k)
    (again : ∀ e back count, ¬p (e, .again back count) = true) : (indexed es).any p = true ↔ ∃ k, .segment k ∈ es ∧ q k := by
  simp only [List.any_eq_true, Prod.exists, mem_indexed]
  constructor
  · rintro ⟨e, x, here, bad⟩
    cases x with
    | segment k => exact ⟨k, List.mem_of_getElem? here, (segment e k).mp bad⟩
    | again back count => exact absurd bad (again e back count)
  · rintro ⟨k, listed, bad⟩
    obtain ⟨e, here⟩ := List.mem_iff_getElem?.mp listed
    exact ⟨e, _, here, (segment e k).mpr bad⟩

/-- A check of the REPEAT entries fails at one of them (102, 103). -/
theorem any_again_iff {q : Nat → Nat → Nat → Prop} (again : ∀ e back count, p (e, .again back count) = true ↔ q e back count)
    (segment : ∀ e k, ¬p (e, .segment k) = true) :
    (indexed es).any p = true ↔ ∃ e back count, es[e]? = some (.again back count) ∧ q e back count := by
  simp only [List.any_eq_true, Prod.exists, mem_indexed]
  constructor
  · rintro ⟨e, x, here, bad⟩
    cases x with
    | segment k => exact absurd bad (segment e k)
    | again back count => exact ⟨e, back, count, here, (again e back count).mp bad⟩
  · rintro ⟨e, back, count, here, bad⟩
    exact ⟨e, _, here, (again e back count).mpr bad⟩

/-- An entry lies in more than two spans (105); an entry of a span is one of the plan. -/
theorem any_depth_iff :
    ((indexed es).any fun x => decide (2 < depthAt (spans es) x.1)) = true ↔ ∃ e, 2 < depthAt (spans es) e := by
  simp only [List.any_eq_true, Prod.exists, mem_indexed, decide_eq_true_iff]
  constructor
  · rintro ⟨e, _, _, deep⟩
    exact ⟨e, deep⟩
  · intro ⟨e, deep⟩
    obtain ⟨b, _, _, _, _, inside⟩ := two_lt_depthAt_iff.mp deep
    obtain ⟨a, span, _, below⟩ := inside b (by simp)
    obtain ⟨_, _, here, _⟩ := mem_spans.mp span
    have place : e < es.length := below.trans_lt (List.getElem?_eq_some_iff.mp here).1
    exact ⟨e, es[e], by simp [place], deep⟩

/-- A plan is the default plan of a nest whose autostart is on (106). -/
theorem isAutostartPlan_iff {c : Configuration} {i : Nat} :
    isAutostartPlan c i = true ↔ ∃ n : NestId, c.autostart[n] = true ∧ c.defaultPlan[n] = i := by
  simp [isAutostartPlan, mem_nestIds]

end

/-- The checks of a plan. -/
theorem planFailures_exactly (t : Tables) (i : Nat) (p : Plan) :
    let repeatAt := fun e back count => p.entries[e]? = some (.again back count)
    let spanOf := fun first last => ∃ back count, repeatAt last back count ∧ first = last - back
    Exactly i (planFailures t i p) [
      (101, ∃ k, .segment k ∈ p.entries ∧ (t.segments[k]?).join = none),
      (102, ∃ e back count, repeatAt e back count ∧ ¬(1 ≤ back ∧ back ≤ e)),
      (103, ∃ e back count, repeatAt e back count ∧ ¬(1 ≤ count ∧ count ≤ 255)),
      (104, ∃ a b c d, spanOf a b ∧ spanOf c d ∧ a < c ∧ c ≤ b ∧ b < d),
      (105, ∃ e b c d, b < c ∧ c < d ∧ ∀ last ∈ [b, c, d], ∃ first, spanOf first last ∧ first ≤ e ∧ e ≤ last),
      (106, p.entries = [] ∧ ∃ n : NestId, t.config.autostart[n] = true ∧ t.config.defaultPlan[n] = i),
      (107, 7 < p.budget ∨ 8 < p.name.length ∨ ¬PrintableText p.name)] := by
  simp only [planFailures, List.append_assoc]
  refine .cons ?_ <| .cons ?_ <| .cons ?_ <| .cons ?_ <| .cons ?_ <| .cons ?_ <| .last ?_
  · exact any_segment_iff (fun _ _ => Option.isNone_iff_eq_none) fun _ _ _ => Bool.false_ne_true
  · refine any_again_iff (fun e back count => ?_) fun _ _ => Bool.false_ne_true
    simp only [Bool.or_eq_true, decide_eq_true_iff]
    omega
  · refine any_again_iff (fun e back count => ?_) fun _ _ => Bool.false_ne_true
    simp only [Bool.or_eq_true, decide_eq_true_iff]
    omega
  · simp only [any_crossing_iff, mem_spans]
  · simp only [any_depth_iff, two_lt_depthAt_iff, mem_spans]
  · rw [Bool.and_eq_true, List.isEmpty_iff, isAutostartPlan_iff]
  · rw [Bool.or_eq_true, decide_eq_true_iff, not_isName_iff]

end Sys2Proof.Machine
end

section
/-! PROOFS. The checks of segments, masks, grades, templates and calibration entries (R27, R102, R113, R132, R159). -/

namespace Sys2Proof.Machine

open Sys2Proof

/-! ## Segments (R27) -/

/-- A judged figure is one of the five. -/
theorem mem_allFigures (f : Figure) : f ∈ allFigures := by
  cases f <;> simp [allFigures]

/-- A check of the mask references fails at a figure that the judge set names with a mask. -/
theorem any_judged_iff {j : JudgeSet} {q : Figure → Nat → Bool} :
    (allFigures.any fun f => (judgedMask j f).any (q f)) = true ↔ ∃ f m, judgedMask j f = some m ∧ q f m = true := by
  simp [mem_allFigures, Option.any_eq_true]

/-- The masks of a judge set are those that it names for its figures. -/
theorem mem_judged_iff {j : JudgeSet} {m : Nat} :
    some m ∈ [j.response, j.thd, j.rub, j.crest, j.impedance] ↔ ∃ f, judgedMask j f = some m := by
  constructor
  · intro listed
    have member : some m ∈ allFigures.map (judgedMask j) := listed
    obtain ⟨f, _, named⟩ := List.mem_map.mp member
    exact ⟨f, named⟩
  · rintro ⟨f, named⟩
    have member : judgedMask j f ∈ allFigures.map (judgedMask j) := List.mem_map_of_mem (mem_allFigures f)
    exact named ▸ member

/-- The checks of a segment. -/
theorem segmentFailures_exactly (i : Nat) (g : Segment) : Exactly i (segmentFailures i g) [
    (201, ¬Within 0 480 g.startCode), (202, ¬Within 1 64 g.stepCount), (203, ¬Within (-48) 48 g.stepSize),
    (204, ¬Within (-600) 0 g.level), (205, 960 < g.rampFrames), (206, 60000 < g.settleFrames),
    (207, ¬Within 96 60000 g.measureFrames), (208, ¬Within 6 20 g.hlo ∨ 40 < g.hhi), (209, g.hhi < g.hlo),
    (210, ∃ m, some m ∈ [g.judge.response, g.judge.thd, g.judge.rub, g.judge.crest, g.judge.impedance] ∧ 15 < m),
    (211, ¬Within 0 480 (g.startCode + ((g.stepCount : Int) - 1) * g.stepSize)), (212, g.settleFrames < g.rampFrames)] := by
  simp only [segmentFailures, List.append_assoc]
  refine .cons outside_iff <| .cons outside_iff <| .cons outside_iff <| .cons outside_iff <| .cons decide_eq_true_iff <|
    .cons decide_eq_true_iff <| .cons outside_iff <| .cons ?harmonics <| .cons decide_eq_true_iff <| .cons ?masks <|
    .cons outside_iff <| .last decide_eq_true_iff
  case harmonics => rw [Bool.or_eq_true, outside_iff, decide_eq_true_iff]
  case masks =>
    simp only [any_judged_iff, mem_judged_iff, decide_eq_true_iff, ← exists_and_right]
    exact exists_comm

/-- The checks of a segment's mask references. -/
theorem maskReferenceFailures_exactly (t : Tables) (i : Nat) (g : Segment) : Exactly i (maskReferenceFailures t i g) [
    (301, ∃ f m, judgedMask g.judge f = some m ∧ (t.masks[m]?).join = none),
    (302, ∃ f m k, judgedMask g.judge f = some m ∧ (t.masks[m]?).join = some k ∧ k.kind ≠ f)] := by
  refine .cons ?_ <| .last ?_
  · simp only [masksMissing, any_judged_iff, Option.isNone_iff_eq_none]
  · simp only [masksOfOtherKind, any_judged_iff, Option.any_eq_true, decide_eq_true_iff, exists_and_left]

/-! ## Masks (R113) -/

/-- The breakpoints ascend where each code is below all later ones. -/
theorem ascending_iff : ∀ {l : List Breakpoint}, ascending l = true ↔ (l.map (·.code)).Pairwise (· < ·)
  | [] => by simp [ascending]
  | [a] => by simp [ascending]
  | a :: b :: rest => by
    rw [ascending, Bool.and_eq_true, decide_eq_true_iff, ascending_iff, ← List.isChain_iff_pairwise, ← List.isChain_iff_pairwise]
    exact List.isChain_cons_cons.symm

/-- A limit is checked against the range of its mask's kind. -/
theorem limitOutside_iff {k : Figure} {l : Option Int} :
    limitOutside k l = true ↔
      ∃ v, l = some v ∧ if k = .impedance then ¬Within 0 65535 v else ¬Within (-1500) 600 v := by
  rw [limitOutside, Option.any_eq_true]
  split <;> simp only [outside_iff]

/-- The limits of a breakpoint cross where both are present and the lower is above the upper. -/
theorem limitsCrossed_iff {b : Breakpoint} :
    limitsCrossed b = true ↔ ∃ l u, b.lower = some l ∧ b.upper = some u ∧ u < l := by
  unfold limitsCrossed
  split <;> simp_all

/-- The checks of a mask. -/
theorem maskFailures_exactly (i : Nat) (m : Mask) : Exactly i (maskFailures i m) [
    (303, m.points.length < 2),
    (304, (∃ b ∈ m.points, ¬Within 0 480 b.code) ∨ ¬(m.points.map (·.code)).Pairwise (· < ·)),
    (305, ∃ b ∈ m.points, ∃ v, (b.upper = some v ∨ b.lower = some v) ∧
      if m.kind = .impedance then ¬Within 0 65535 v else ¬Within (-1500) 600 v),
    (306, ∃ b ∈ m.points, ∃ l u, b.lower = some l ∧ b.upper = some u ∧ u < l)] := by
  simp only [maskFailures, List.append_assoc]
  refine .cons decide_eq_true_iff <| .cons ?codes <| .cons ?limits <| .last ?crossed
  case codes => simp only [Bool.or_eq_true, List.any_eq_true, outside_iff, Bool.not_eq_true', ← Bool.not_eq_true, ascending_iff]
  case limits => simp only [List.any_eq_true, Bool.or_eq_true, limitOutside_iff, ← exists_or, ← or_and_right]
  case crossed => simp only [List.any_eq_true, limitsCrossed_iff]

/-! ## Grades (R132) and templates (R159) -/

section
variable {cs : List Condition}

/-- A condition of unknown kind is found (404). -/
theorem any_isUnknown_iff : cs.any Condition.isUnknown = true ↔ ∃ k, .unknown k ∈ cs := by
  simp only [List.any_eq_true]
  constructor
  · rintro ⟨c, listed, bad⟩
    cases c <;> cases bad
    exact ⟨_, listed⟩
  · rintro ⟨k, listed⟩
    exact ⟨_, listed, rfl⟩

/-- A condition with an empty set is found (405). -/
theorem any_hasEmptySet_iff :
    cs.any Condition.hasEmptySet = true ↔
      (∃ ks os cmp k, .findings ks os cmp k ∈ cs ∧ (ks = [] ∨ os = [])) ∨ .nest [] ∈ cs := by
  simp only [List.any_eq_true]
  constructor
  · rintro ⟨c, listed, bad⟩
    cases c with
    | findings ks os cmp k => exact .inl ⟨ks, os, cmp, k, listed, by simpa [Condition.hasEmptySet] using bad⟩
    | nest nests => exact .inr (List.isEmpty_iff.mp bad ▸ listed)
    | retest | unknown => cases bad
  · rintro (⟨ks, os, cmp, k, listed, bad⟩ | listed)
    · exact ⟨_, listed, by simpa [Condition.hasEmptySet] using bad⟩
    · exact ⟨_, listed, rfl⟩

/-- A FINDINGS condition with a number above 255 is found (406). -/
theorem any_numberTooLarge_iff :
    cs.any Condition.numberTooLarge = true ↔ ∃ ks os cmp k, .findings ks os cmp k ∈ cs ∧ 255 < k := by
  simp only [List.any_eq_true]
  constructor
  · rintro ⟨c, listed, bad⟩
    cases c with
    | findings ks os cmp k => exact ⟨ks, os, cmp, k, listed, of_decide_eq_true bad⟩
    | retest | nest | unknown => cases bad
  · rintro ⟨ks, os, cmp, k, listed, bad⟩
    exact ⟨_, listed, decide_eq_true bad⟩

end

/-- The checks of a grade rule. -/
theorem gradeFailures_exactly (last i : Nat) (g : GradeRule) : Exactly i (gradeFailures last i g) [
    (402, i = last ∧ g.conditions ≠ []),
    (403, 15 < g.code ∨ 7 < g.bin ∨ 8 < g.name.length ∨ ¬PrintableText g.name),
    (404, ∃ k, .unknown k ∈ g.conditions),
    (405, (∃ ks os cmp k, .findings ks os cmp k ∈ g.conditions ∧ (ks = [] ∨ os = [])) ∨ .nest [] ∈ g.conditions),
    (406, ∃ ks os cmp k, .findings ks os cmp k ∈ g.conditions ∧ 255 < k)] := by
  simp only [gradeFailures, List.append_assoc]
  refine .cons ?conditions <| .cons ?fields <| .cons any_isUnknown_iff <| .cons any_hasEmptySet_iff <| .last any_numberTooLarge_iff
  case conditions => simp
  case fields => rw [Bool.or_eq_true, Bool.or_eq_true, not_isName_iff, decide_eq_true_iff, decide_eq_true_iff, or_assoc]

/-- A table with no rule is reported as such (401). -/
theorem gradeTableFailures_of_empty {t : Tables} (h : ∀ i : Fin 16, t.grades[i] = none) : gradeTableFailures t = [⟨401, 0⟩] := by
  have no_rule : defined t.grades.toList = [] := by
    simp only [defined_toList, h, Option.toList_none, List.map_nil, List.flatMap_eq_nil_iff, implies_true]
  simp [gradeTableFailures, no_rule, failIf]

/-- The defined entry of highest index is the last one. -/
theorem getLast?_defined {α : Type} {n : Nat} {v : Vector (Option α) n} {last : Fin n} (here : v[last] ≠ none)
    (above : ∀ i : Fin n, last < i → v[i] = none) : (defined v.toList).getLast?.map (·.1) = some last.val := by
  obtain ⟨x, hx⟩ := Option.ne_none_iff_exists'.mp here
  have member : (last.val, x) ∈ defined v.toList := mem_defined.mpr ⟨last, hx, rfl⟩
  have nonempty := List.ne_nil_of_mem member
  rw [List.getLast?_eq_some_getLast nonempty, Option.map_some, Option.some_inj]
  obtain ⟨i, hi, place⟩ := mem_defined.mp (List.getLast_mem nonempty)
  have upper : i ≤ last := not_lt.mp fun beyond => by simp [above i beyond] at hi
  have lower : last.val ≤ ((defined v.toList).getLast nonempty).1 :=
    ((defined_pairwise v.toList).imp le_of_lt).rel_getLast (R := fun a b => a.1 ≤ b.1) member
  omega

/-- The rules of a table are checked in ascending index, the one of highest index as the last rule. -/
theorem gradeTableFailures_of_last {t : Tables} {last : Fin 16} (here : t.grades[last] ≠ none)
    (above : ∀ i : Fin 16, last < i → t.grades[i] = none) :
    gradeTableFailures t = (List.finRange 16).flatMap fun i => t.grades[i].toList.flatMap (gradeFailures last i) := by
  have highest := getLast?_defined here above
  have some_rule : (defined t.grades.toList).isEmpty = false := by
    cases h : defined t.grades.toList
    · simp [h] at highest
    · rfl
  simp only [gradeTableFailures, some_rule, highest, Option.getD_some, failIf, Bool.false_eq_true, if_false, List.nil_append]
  exact flatMap_defined t.grades (gradeFailures last)

/-- The check of a rule's template reference. -/
theorem templateReferenceFailures_exactly (t : Tables) (i : Nat) (g : GradeRule) :
    Exactly i (templateReferenceFailures t i g) [(501, ∃ k, g.template = some k ∧ (t.templates[k]?).join = none)] :=
  .last (by simp only [Option.any_eq_true, Option.isNone_iff_eq_none])

/-- A LITERAL that is not printable is found (503). -/
theorem any_literalUnprintable_iff {fs : List LabelField} :
    fs.any literalUnprintable = true ↔ ∃ x, .literal x ∈ fs ∧ ¬PrintableText x := by
  simp only [List.any_eq_true]
  constructor
  · rintro ⟨f, listed, bad⟩
    cases f with
    | literal x => exact ⟨x, listed, by rw [← all_printable_iff]; simpa [literalUnprintable] using bad⟩
    | _ => cases bad
  · rintro ⟨x, listed, bad⟩
    rw [← all_printable_iff] at bad
    exact ⟨_, listed, by simpa [literalUnprintable] using bad⟩

/-- The checks of a template. -/
theorem templateFailures_exactly (i : Nat) (fs : List LabelField) :
    Exactly i (templateFailures i fs) [(502, fs = []), (503, ∃ x, .literal x ∈ fs ∧ ¬PrintableText x)] :=
  .cons List.isEmpty_iff <| .last any_literalUnprintable_iff

/-! ## Calibration (R102) -/

/-- The three checks of a CALIBRATION entry, of which the last two need a record. -/
theorem calibrationFailures_eq (i : Nat) (c : Option Calibration) :
    calibrationFailures i c = failIf c.isNone 601 i ++
      (failIf (c.any fun x => outside (-200) 200 x.micOffset) 602 i ++ failIf (c.any fun x => decide (x.scale = 0)) 603 i) := by
  cases c <;> rfl

/-- The checks of a CALIBRATION entry. -/
theorem calibrationFailures_exactly (i : Nat) (c : Option Calibration) : Exactly i (calibrationFailures i c) [
    (601, c = none), (602, ∃ x, c = some x ∧ ¬Within (-200) 200 x.micOffset), (603, ∃ x, c = some x ∧ x.scale = 0)] := by
  rw [calibrationFailures_eq]
  refine .cons Option.isNone_iff_eq_none <| .cons ?_ <| .last ?_
  · simp only [Option.any_eq_true, outside_iff]
  · simp only [Option.any_eq_true, decide_eq_true_iff]

end Sys2Proof.Machine
end

section
/-! PROOFS. The checks of the CONFIGURATION settings (R1, R46, R83, R103, R148, R164, R179), and the whole validation in its order (R174). -/

namespace Sys2Proof.Machine

open Sys2Proof

/-! ## Settings -/

section
variable {a b : Bool} {p q : Prop}

/-- One of two checks fails. -/
theorem or_check_iff (ha : a = true ↔ p) (hb : b = true ↔ q) : (a || b) = true ↔ p ∨ q := by
  rw [Bool.or_eq_true, ha, hb]

/-- Both of two checks fail. -/
theorem and_check_iff (ha : a = true ↔ p) (hb : b = true ↔ q) : (a && b) = true ↔ p ∧ q := by
  rw [Bool.and_eq_true, ha, hb]

end

/-- A role of unknown code. -/
theorem roleUnknown_iff {r : RoleSetting} : roleUnknown r = true ↔ ∃ k, r = .unknown k := by
  cases r <;> simp [roleUnknown]

/-- A step-report setting of unknown code. -/
theorem reportUnknown_iff {r : ReportSetting} : reportUnknown r = true ↔ ∃ k, r = .unknown k := by
  cases r <;> simp [reportUnknown]

/-- A class action of unknown code. -/
theorem actionUnknown_iff {a : ActionSetting} : actionUnknown a = true ↔ ∃ k, .unknown k = a := by
  cases a <;> simp [actionUnknown]

/-- One of the four class actions is of unknown code (620). -/
theorem any_actionUnknown_iff {a b c d : ActionSetting} :
    (actionUnknown a || (actionUnknown b || (actionUnknown c || actionUnknown d))) = true ↔ ∃ k, .unknown k ∈ [a, b, c, d] := by
  simp only [Bool.or_eq_true, actionUnknown_iff, List.mem_cons, List.not_mem_nil, or_false, exists_or]

/-- A rate that is none of the five (618). -/
theorem not_baudRates_iff {k : Nat} : (!baudRates.contains k) = true ↔ k ∉ [9600, 19200, 38400, 57600, 115200] := by
  simp only [Bool.not_eq_true', ← Bool.not_eq_true, List.contains_iff_mem, baudRates]

/-! ## The order of the checks -/

/-- The order of checking: by detail code, then by index. -/
def Failure.Before (f g : Failure) : Prop := f.detail < g.detail ∨ f.detail = g.detail ∧ f.index ≤ g.index

section
variable {i d : Nat} {fs : List Failure} {cs : List (Nat × Prop)} {bad : NestId → Bool} {f : Failure}

/-- The failures of one entry are in the order of checking. -/
theorem Exactly.ordered (h : Exactly i fs cs) : fs.Pairwise Failure.Before :=
  (List.pairwise_map.mp h.1).imp .inl

/-- A failure of an entry names the entry, and has the code of one of its checks. -/
theorem Exactly.of_mem {q : Nat → Prop} (h : Exactly i fs cs) (codes : ∀ c ∈ cs, q c.1) (hf : f ∈ fs) : f.index = i ∧ q f.detail := by
  obtain ⟨index, bad, listed, _⟩ := (h.2 f).mp hf
  exact ⟨index, codes _ listed⟩

/-- A check of the nests' settings names each nest at which it fails. -/
theorem mem_nestFailures : f ∈ nestFailures bad d ↔ f.detail = d ∧ ∃ n : NestId, f.index = n.val ∧ bad n = true := by
  simp only [nestFailures, List.mem_flatMap, mem_failIf, mem_nestIds, true_and]
  constructor
  · rintro ⟨n, index, detail, fails⟩
    exact ⟨detail, n, index, fails⟩
  · rintro ⟨detail, n, index, fails⟩
    exact ⟨n, index, detail, fails⟩

/-- The nests are checked in ascending order. -/
theorem nestFailures_ordered : (nestFailures bad d).Pairwise Failure.Before := by
  refine List.pairwise_flatMap.mpr ⟨fun n _ => ?_, ?_⟩
  · unfold failIf
    split <;> simp
  · have ascending : nestIds.Pairwise (· < ·) := by decide
    refine ascending.imp fun below f hf g hg => ?_
    obtain ⟨hfi, hfd, -⟩ := mem_failIf.mp hf
    obtain ⟨hgi, hgd, -⟩ := mem_failIf.mp hg
    exact .inr ⟨by rw [hfd, hgd], by rw [hfi, hgi]; exact le_of_lt below⟩

end

/-- The settings of the nests (615, 616) are checked after the settings of lower code and before those of higher code. -/
theorem Exactly.around_nests {early late : List Failure} {low high : List (Nat × Prop)} {r q : NestId → Bool} {R Q : NestId → Prop}
    (he : Exactly 0 early low) (hl : Exactly 0 late high) (hlow : ∀ c ∈ low, c.1 ≤ 615) (hhigh : ∀ c ∈ high, 617 ≤ c.1)
    (hr : ∀ n, r n = true ↔ R n) (hq : ∀ n, q n = true ↔ Q n) :
    (early ++ (nestFailures r 615 ++ (nestFailures q 616 ++ late))).Pairwise Failure.Before ∧
      ∀ f : Failure, f ∈ early ++ (nestFailures r 615 ++ (nestFailures q 616 ++ late)) ↔
        (f.index = 0 ∧ ∃ bad, (f.detail, bad) ∈ low ++ high ∧ bad) ∨
          ∃ n : NestId, f.index = n.val ∧ (f.detail = 615 ∧ R n ∨ f.detail = 616 ∧ Q n) := by
  refine ⟨?_, fun f => ?_⟩
  · simp only [List.pairwise_append, List.mem_append]
    refine ⟨he.ordered, ⟨nestFailures_ordered, ⟨nestFailures_ordered, hl.ordered, fun f hf g hg => ?_⟩, fun f hf g hg => ?_⟩,
      fun f hf g hg => ?_⟩
    · obtain ⟨code, -⟩ := mem_nestFailures.mp hf
      obtain ⟨-, above⟩ := hl.of_mem (q := (617 ≤ ·)) hhigh hg
      exact .inl (by omega)
    · obtain ⟨code, -⟩ := mem_nestFailures.mp hf
      rcases hg with hg | hg
      · obtain ⟨next, -⟩ := mem_nestFailures.mp hg
        exact .inl (by omega)
      · obtain ⟨-, above⟩ := hl.of_mem (q := (617 ≤ ·)) hhigh hg
        exact .inl (by omega)
    · obtain ⟨index, below⟩ := he.of_mem (q := (· ≤ 615)) hlow hf
      rcases hg with hg | hg | hg
      · obtain ⟨code, -⟩ := mem_nestFailures.mp hg
        unfold Failure.Before
        omega
      · obtain ⟨code, -⟩ := mem_nestFailures.mp hg
        exact .inl (by omega)
      · obtain ⟨-, above⟩ := hl.of_mem (q := (617 ≤ ·)) hhigh hg
        exact .inl (by omega)
  · have settings : (∃ bad, (f.detail, bad) ∈ low ++ high ∧ bad) ↔
        (∃ bad, (f.detail, bad) ∈ low ∧ bad) ∨ ∃ bad, (f.detail, bad) ∈ high ∧ bad := by
      simp only [List.mem_append, or_and_right, exists_or]
    have nests : (∃ n : NestId, f.index = n.val ∧ (f.detail = 615 ∧ R n ∨ f.detail = 616 ∧ Q n)) ↔
        (f.detail = 615 ∧ ∃ n : NestId, f.index = n.val ∧ R n) ∨ f.detail = 616 ∧ ∃ n : NestId, f.index = n.val ∧ Q n := by
      simp only [and_or_left, exists_or, and_left_comm (a := f.index = _), exists_and_left]
    rw [settings, nests]
    simp only [List.mem_append, he.2 f, hl.2 f, mem_nestFailures, hr, hq, and_or_left, or_assoc, or_left_comm, or_comm]

/-- The settings are checked in ascending detail code, those of the nests among them. -/
theorem configurationFailures_eq (c : Configuration) : ∃ early late,
    configurationFailures c = early ++ (nestFailures (fun n => reportUnknown c.stepReport[n]) 615 ++
      (nestFailures (fun n => decide (7 < c.defaultPlan[n])) 616 ++ late)) ∧
    Exactly 0 early [
      (611, ¬Within 1 255 c.debounce),
      (612, (∃ k, c.role = .unknown k) ∨ ¬Within (-600) 0 c.quietCeiling ∨ ¬Within 1 1000 c.holdLimit ∨ ¬Within 10 10000 c.waitLimit),
      (613, (c.role = .first ∨ c.role = .member) ∧ c.waitLimit ≤ c.holdLimit),
      (614, 3 < c.guardExponent ∨ ¬Within 1 4 c.guardDebounce ∨ ¬Within (-1500) 0 c.normalThreshold ∨
        ¬Within (-1500) 0 c.quietThreshold),
      (615, ¬Within (-1200) (-400) c.silenceFloor ∨ ¬Within (-1200) (-400) c.currentFloor)] ∧
    Exactly 0 late [
      (617, ¬Within 16 64 c.yieldWindow ∨ 64 < c.yieldThreshold ∨ c.yieldWindow < c.yieldThreshold ∨ 15 < c.failLimit),
      (618, c.baud ∉ [9600, 19200, 38400, 57600, 115200] ∨ ¬Within 1 255 c.replyTimeout),
      (619, ¬Within 1 60 c.stallLimit),
      (620, ∃ k, .unknown k ∈ [c.actionTimeout, c.actionDuplicate, c.actionMarker, c.actionStall])] := by
  refine ⟨_, _, ?_,
    .cons outside_iff <| .cons (or_check_iff roleUnknown_iff <| or_check_iff outside_iff <| or_check_iff outside_iff outside_iff) <|
      .cons (and_check_iff (or_check_iff decide_eq_true_iff decide_eq_true_iff) decide_eq_true_iff) <|
      .cons (or_check_iff decide_eq_true_iff <| or_check_iff outside_iff <| or_check_iff outside_iff outside_iff) <|
      .last (or_check_iff outside_iff outside_iff),
    .cons (or_check_iff outside_iff <| or_check_iff decide_eq_true_iff <| or_check_iff decide_eq_true_iff decide_eq_true_iff) <|
      .cons (or_check_iff not_baudRates_iff outside_iff) <| .cons outside_iff <| .last any_actionUnknown_iff⟩
  simp only [configurationFailures, List.append_assoc, Bool.or_assoc]

/-! ## The whole validation (R174) -/

/-- The tables are checked one after another, their entries in ascending index. -/
theorem validate_eq (t : Tables) : validate t = (
    ((List.finRange 8).flatMap fun i : Fin 8 => planFailures t i t.plans[i]) ++
    ((List.finRange 128).flatMap fun i : Fin 128 => t.segments[i].toList.flatMap (segmentFailures i)) ++
    ((List.finRange 128).flatMap fun i : Fin 128 => t.segments[i].toList.flatMap (maskReferenceFailures t i)) ++
    ((List.finRange 16).flatMap fun i : Fin 16 => t.masks[i].toList.flatMap (maskFailures i)) ++
    gradeTableFailures t ++
    ((List.finRange 16).flatMap fun i : Fin 16 => t.grades[i].toList.flatMap (templateReferenceFailures t i)) ++
    ((List.finRange 8).flatMap fun i : Fin 8 => t.templates[i].toList.flatMap (templateFailures i)) ++
    ((List.finRange 4).flatMap fun i : Fin 4 => calibrationFailures i t.calibration[i]) ++
    configurationFailures t.config).head? := by
  rw [validate, failures, flatMap_indexed, flatMap_indexed, flatMap_defined, flatMap_defined, flatMap_defined, flatMap_defined,
    flatMap_defined]

/-- Settles O54: the order of the tables is read off, and the checks of each kind of entry are built up one by one. -/
theorem validationChecks : Obligations.ValidationChecks := by
  refine ⟨validate_eq, planFailures_exactly, segmentFailures_exactly, maskReferenceFailures_exactly, maskFailures_exactly,
    fun t => ⟨gradeTableFailures_of_empty, fun last => gradeTableFailures_of_last⟩, gradeFailures_exactly,
    templateReferenceFailures_exactly, templateFailures_exactly, calibrationFailures_exactly, fun c => ?_⟩
  obtain ⟨early, late, split, he, hl⟩ := configurationFailures_eq c
  rw [split]
  exact he.around_nests hl (by simp) (by simp) (fun _ => reportUnknown_iff) fun _ => decide_eq_true_iff

end Sys2Proof.Machine
end

section
/-! PROOFS. The message lanes of the Station Port (R189 to R192): the parts of a message, the bytes sent, and the assembly of the bytes
received. -/

namespace Sys2Proof.Machine

open Sys2Proof

variable {s : State}

/-! ## The parts of a message (R190) -/

/-- A payload of at most 250 bytes is one part. -/
theorem partsOf_last {type tag : Byte} {payload : List Byte} (fuel : Nat) (h : payload.length ≤ 250) :
    partsOf type tag (fuel + 1) payload = [type, tag, BitVec.ofNat 8 payload.length] ++ payload := by
  simp [partsOf, h]

/-- The first 250 bytes of a longer payload are a part under the length byte 255. -/
theorem partsOf_more {type tag : Byte} {part rest : List Byte} (fuel : Nat) (full : part.length = 250) (more : rest ≠ []) :
    partsOf type tag (fuel + 1) (part ++ rest) = [type, tag, 255] ++ part ++ partsOf type tag fuel rest := by
  have longer : ¬(part ++ rest).length ≤ 250 := by simp [full, more]
  rw [partsOf, if_neg longer, ← full, List.take_left, List.drop_left]
  rfl

/-- A payload cut into full parts and a last one is sent part by part, with any fuel above its length. -/
theorem partsOf_flatten {type tag : Byte} {last : List Byte} (short : last.length ≤ 250) :
    ∀ (front : List (List Byte)) (fuel : Nat), (∀ part ∈ front, part.length = 250) → (last = [] → front = []) →
      (front.flatten ++ last).length < fuel →
      partsOf type tag fuel (front.flatten ++ last) =
        (front.flatMap fun part => [type, tag, 255] ++ part) ++ [type, tag, BitVec.ofNat 8 last.length] ++ last
  | _, 0, _, _, enough => absurd enough (Nat.not_lt_zero _)
  | [], fuel + 1, _, _, _ => partsOf_last fuel short
  | part :: front, fuel + 1, full, nonempty, enough => by
    have lastNonempty : last ≠ [] := fun h => List.cons_ne_nil _ _ (nonempty h)
    have partFull : part.length = 250 := full part List.mem_cons_self
    rw [List.flatten_cons, List.append_assoc] at enough ⊢
    rw [partsOf_more fuel partFull (List.append_ne_nil_of_right_ne_nil _ lastNonempty),
      partsOf_flatten short front fuel (fun p hp => full p (List.mem_cons_of_mem _ hp)) (fun h => absurd h lastNonempty)
        (by rw [List.length_append] at enough; omega)]
    simp

/-! ## The upstream lanes (R192) -/

/-- The message in sending goes on. -/
theorem sendByte_sending {b : Byte} {rest : List Byte} (h : s.port.sending = b :: rest) :
    sendByte s = (b, s.setPort { s.port with sending := rest }) := by
  simp [sendByte, h]

/-- With no message in sending, HOLD_OFF or an empty Result Queue gives filler. -/
theorem sendByte_filler (idle : s.port.sending = []) (h : s.port.holdOff = true ∨ s.port.results = []) : sendByte s = (0, s) := by
  rcases h with held | empty
  · cases hr : s.port.results <;> simp [sendByte, idle, held, hr]
  · simp [sendByte, idle, empty]

/-- With no message in sending the head message opens, and leaves the Result Queue. -/
theorem sendByte_head {m : Message} {rest : List Message} (idle : s.port.sending = []) (go : s.port.holdOff = false)
    (h : s.port.results = m :: rest) :
    sendByte s = ((messageBytes m).headD 0, settle (s.setPort { s.port with results := rest, sending := (messageBytes m).drop 1 })) := by
  simp [sendByte, idle, go, h, beginMessage]

/-! ## The downstream frame (R191) -/

/-- A frame whose check matches sets HOLD_OFF, and its four lane bytes are assembled in order. -/
theorem takeDownstream_good {d : DownFrame} (h : frameCheck [d[0], d[1], d[2], d[3], d[4]] = d[5]) : takeDownstream (some d) s =
    assembleByte (assembleByte (assembleByte (assembleByte
      (s.setPort { s.port with holdOff := d[0].getLsbD 0 }) d[1]) d[2]) d[3]) d[4] := by
  simp [takeDownstream, goodFrame, h, takeGoodFrame]

/-- A frame that does not count is counted as bad, and abandons the message partly assembled. -/
theorem takeBadFrame_eq (h : s.port.badFrames ≤ 4294967295) : takeBadFrame s =
    s.setPort { s.port with assembly := [], badFrames := min 4294967295 (s.port.badFrames + 1) } := by
  rw [takeBadFrame, satInc_eq_min h]

/-- A frame whose check does not match is a bad frame. -/
theorem takeDownstream_bad {d : DownFrame} (h : frameCheck [d[0], d[1], d[2], d[3], d[4]] ≠ d[5]) :
    takeDownstream (some d) s = takeBadFrame s := by
  simp [takeDownstream, goodFrame, h]

/-! ## The assembly of downstream bytes (R191) -/

/-- Between messages a byte 0 is filler, and any other is the type of a message. -/
theorem assembleByte_first {b : Byte} (h : s.port.assembly = []) :
    assembleByte s b = if b = 0 then s else s.setPort { s.port with assembly := [b] } := by
  simp [assembleByte, h, keepAssembly]

/-- The second byte of a message is its tag. -/
theorem assembleByte_tag {b type : Byte} (h : s.port.assembly = [type]) :
    assembleByte s b = s.setPort { s.port with assembly := [type, b] } := by
  simp [assembleByte, h, keepAssembly]

/-- The third byte of a message is its length: above 250 it abandons the message, and 0 ends it. -/
theorem assembleByte_length {b type tag : Byte} (h : s.port.assembly = [type, tag]) : assembleByte s b =
    if 250 < b.toNat then badMessage s
    else if b = 0 then settle (arrive ⟨tag, requestOf type.toNat []⟩ (s.setPort { s.port with assembly := [] }))
    else s.setPort { s.port with assembly := [type, tag, b] } := by
  simp [assembleByte, h, keepAssembly, finishMessage]

/-- A byte of the payload is kept, but for the last one, with which the message arrives. -/
theorem assembleByte_payload {b type tag len : Byte} {payload : List Byte} (h : s.port.assembly = type :: tag :: len :: payload) :
    assembleByte s b =
      if len.toNat ≤ payload.length + 1 then
        settle (arrive ⟨tag, requestOf type.toNat (payload ++ [b])⟩ (s.setPort { s.port with assembly := [] }))
      else s.setPort { s.port with assembly := type :: tag :: len :: payload ++ [b] } := by
  simp [assembleByte, h, keepAssembly, finishMessage]

/-- A header with a length above 250 is counted as a bad message. -/
theorem badMessage_eq (h : s.port.badMessages ≤ 4294967295) : badMessage s =
    s.setPort { s.port with assembly := [], badMessages := min 4294967295 (s.port.badMessages + 1) } := by
  rw [badMessage, satInc_eq_min h]

/-! ## The statement -/

/-- Settles O60: the payload is cut by induction on its full parts; the rest is one equation for each place that a lane byte can have in
its message. -/
theorem laneBytes : Obligations.LaneBytes := by
  refine ⟨fun m => ?_, fun type tag front last full short nonempty => partsOf_flatten short front _ full nonempty (Nat.lt_succ_self _),
    fun s => ⟨fun b rest => sendByte_sending, sendByte_filler, fun m rest => sendByte_head⟩, fun d s => ⟨takeDownstream_good, fun few => ?_⟩,
    fun b s => ⟨fun start => ?_, fun type => assembleByte_tag, fun type tag header => ?_, fun type tag len payload partly => ?_⟩⟩
  · cases m <;> rfl
  · exact ⟨takeBadFrame_eq few, fun mismatch => (takeDownstream_bad mismatch).trans (takeBadFrame_eq few)⟩
  · rw [assembleByte_first start]
    exact ⟨fun filler => if_pos filler, fun opens => if_neg opens⟩
  · rw [assembleByte_length header]
    refine ⟨fun above few => ?_, fun some_bytes fits => ?_, fun empty => ?_⟩
    · rw [if_pos above, badMessage_eq few]
    · rw [if_neg (by omega), if_neg (by rintro rfl; contradiction)]
    · simp [empty]
  · rw [assembleByte_payload partly]
    exact ⟨fun more => if_neg (by omega), fun whole => if_pos (by omega)⟩

end Sys2Proof.Machine
end

section
/-! PROOFS. The table commands WRITE_TABLE and READ_TABLE (R195), and the write conditions of the eight tables (R26, R28, R102, R112, R130,
R157). -/

namespace Sys2Proof.Machine

open Sys2Proof

variable {s u : State} {t : Tables} {tag : Byte} {w : TableWrite}

/-! ## The write conditions of the tables -/

/-- At an index of the table, the checked store is the unchecked one. -/
theorem set_eq_set! {α : Type} {n i : Nat} {v : Vector α n} {x : α} (h : i < n) : v.set i x h = v.set! i x :=
  Vector.toArray_inj.mp (by simp [Array.set!, Array.setIfInBounds, h])

/-- The fields of a template of known kinds are stored where every LITERAL has at most 8 characters (R157). -/
theorem templateOf_known : ∀ fs : List LabelField, templateOf (fs.map .known) =
    if (fs.all fun | .literal x => decide (x.length ≤ 8) | _ => true) = true then some fs else none
  | [] => rfl
  | f :: fs => by
    cases f with
    | literal x => by_cases short : x.length ≤ 8 <;> simp [templateOf, templateOf_known fs, short, apply_ite]
    | _ => simp [templateOf, templateOf_known fs, apply_ite]

/-- A template with a field of unknown kind does not fit (R157). -/
theorem templateOf_unknown {k : Nat} : ∀ {fs : List LabelFieldArg}, .unknown k ∈ fs → templateOf fs = none
  | .unknown _ :: _, _ => rfl
  | .known f :: fs, h => by
    have rest : templateOf fs = none := templateOf_unknown (by simpa using h)
    cases f <;> simp [templateOf, rest]

/-- A SEGMENT record fits at every index of its table, and so does an undefined one (R26). -/
theorem storeEntry_segment (i : Nat) (r : Option Segment) : storeEntry t (.segment i r) =
    if i < 128 then some { t with segments := t.segments.set! i r } else none := by
  simp only [storeEntry, set_eq_set!, dite_eq_ite]

/-- A PLAN record fits with at most 32 entries (R28). -/
theorem storeEntry_plan (i : Nat) (p : Plan) : storeEntry t (.plan i (some p)) =
    if i < 8 ∧ p.entries.length ≤ 32 then some { t with plans := t.plans.set! i p } else none := by
  simp only [storeEntry, set_eq_set!, dite_eq_ite, ite_and]

/-- A MASK record fits with at most 32 points (R112). -/
theorem storeEntry_mask (i : Nat) (m : Mask) : storeEntry t (.mask i (some m)) =
    if i < 16 ∧ m.points.length ≤ 32 then some { t with masks := t.masks.set! i (some m) } else none := by
  simp only [storeEntry, set_eq_set!, dite_eq_ite, ite_and, Option.all_some, decide_eq_true_eq]

/-- A GRADE record fits with at most 3 conditions (R130). -/
theorem storeEntry_grade (i : Nat) (g : GradeRule) : storeEntry t (.grade i (some g)) =
    if i < 16 ∧ g.conditions.length ≤ 3 then some { t with grades := t.grades.set! i (some g) } else none := by
  simp only [storeEntry, set_eq_set!, dite_eq_ite, ite_and, Option.all_some, decide_eq_true_eq]

/-- A template of known kinds fits with at most 12 fields and with no LITERAL above 8 characters (R157). -/
theorem storeEntry_template (i : Nat) (fs : List LabelField) : storeEntry t (.labelTemplate i (some (fs.map .known))) =
    if i < 8 ∧ fs.length ≤ 12 ∧ (fs.all fun | .literal x => decide (x.length ≤ 8) | _ => true) = true then
      some { t with templates := t.templates.set! i (some fs) } else none := by
  simp only [storeEntry, set_eq_set!, dite_eq_ite, ite_and, List.length_map, templateOf_known, apply_ite (Option.map _), Option.map_some,
    Option.map_none]

/-- A CALIBRATION record fits in its storage ranges (R102). -/
theorem storeEntry_calibration (i : Nat) (c : Calibration) : storeEntry t (.calibration i (some c)) =
    if i < 4 ∧ -32768 ≤ c.micOffset ∧ c.micOffset ≤ 32767 ∧ c.scale ≤ 65535 then
      some { t with calibration := t.calibration.set! i (some c) } else none := by
  simp only [storeEntry, set_eq_set!, dite_eq_ite, ite_and, Option.all_some, calibrationFits, Bool.and_eq_true, decide_eq_true_eq]

/-- A record taken out leaves its entry undefined, in the tables that have undefined entries; a PLAN and a CONFIGURATION write need their
record (log entry 17). -/
theorem storeEntry_none (i : Nat) :
    storeEntry t (.mask i none) = (if i < 16 then some { t with masks := t.masks.set! i none } else none) ∧
      storeEntry t (.grade i none) = (if i < 16 then some { t with grades := t.grades.set! i none } else none) ∧
      storeEntry t (.labelTemplate i none) = (if i < 8 then some { t with templates := t.templates.set! i none } else none) ∧
      storeEntry t (.calibration i none) = (if i < 4 then some { t with calibration := t.calibration.set! i none } else none) ∧
      storeEntry t (.plan i none) = none ∧ storeEntry t (.configuration i none) = none := by
  simp only [storeEntry, set_eq_set!, dite_eq_ite, Option.all_none, if_true, and_self]

/-- A TAP entry with a known source is stored at each index of the table (R200). -/
theorem storeTap_known {i : Nat} (h : i < 8) (x : TapSource) :
    storeTap t i (some (.known x)) = some { t with taps := t.taps.set! i x } := by
  simp only [storeTap, set_eq_set!, h, dite_true]

/-- A TAP entry taken out leaves source NONE (R200). -/
theorem storeTap_none {i : Nat} (h : i < 8) : storeTap t i none = some { t with taps := t.taps.set! i .none } := by
  simp only [storeTap, set_eq_set!, h, dite_true]

/-- No TAP entry is stored outside the table. -/
theorem storeTap_outside {i : Nat} {r : Option TapArg} (h : 8 ≤ i) : storeTap t i r = none :=
  dif_neg (Nat.not_lt.mpr h)

/-- No TAP entry is stored from an unknown source. -/
theorem storeTap_unknown (i k : Nat) : storeTap t i (some (.unknown k)) = none := by
  simp only [storeTap, dite_eq_ite, ite_self]

/-! ## WRITE_TABLE (R195) -/

/-- A TAP write with its index and source in the lists is stored at every access level (R195, R200). -/
theorem handleWriteTable_tap {i : Nat} {r : Option TapArg} (h : storeTap s.tables i r = some t) :
    handleCommand tag (.writeTable (.tap i r)) s = accept (s.setTables t) := by
  simp [handleCommand, handleWriteTable, h]

/-- A TAP write with its index or source outside the lists is refused (R195, R200). -/
theorem handleWriteTable_badTap {i : Nat} {r : Option TapArg} (h : storeTap s.tables i r = none) :
    handleCommand tag (.writeTable (.tap i r)) s = refuse .badArgument s := by
  simp [handleCommand, handleWriteTable, h]

/-- A write to any other known table meets the further checks. -/
theorem handleWriteTable_locked (notTap : ∀ i r, w ≠ .tap i r) (known : ∀ k, w ≠ .unknown k) :
    handleCommand tag (.writeTable w) s = writeLocked w s := by
  cases w with
  | tap i r => exact absurd rfl (notTap i r)
  | unknown k => exact absurd rfl (known k)
  | _ => rfl

/-- A debounced edge places no message (R1, R3, R199). -/
theorem debouncedEdge_results {i : Input} (h : debouncedEdge i s = some u) : u.port.results = s.port.results := by
  revert h
  unfold debouncedEdge
  (repeat' split) <;> rintro ⟨⟩
  unfold takeEdge deliverEdge
  dsimp only
  (repeat' split) <;> simp

/-- The holds that a write completes place no message (R2). -/
theorem completeHolds_results : (completeHolds s).port.results = s.port.results := by
  unfold completeHolds
  refine List.foldlRecOn (motive := fun (u : State) => u.port.results = s.port.results) _ _ rfl fun u hu i _ => ?_
  rcases attempt_cases (debouncedEdge i) u with ⟨_, stays⟩ | taken
  · rw [stays, hu]
  · rw [debouncedEdge_results taken, hu]

/-- Below access level ENGINEER the write is refused (R194). -/
theorem writeLocked_operator (operator : s.inputs.engEnable.debounced = false) : writeLocked w s = refuse .notPermitted s := by
  simp [writeLocked, isEngineer, operator]

/-- Outside STANDBY the write is refused. -/
theorem writeLocked_wrongMode (engineer : s.inputs.engEnable.debounced = true) (mode : s.run.mode ≠ .standby) :
    writeLocked w s = refuse .wrongMode s := by
  simp [writeLocked, isEngineer, engineer, mode]

/-- With a validation in flight the write is refused. -/
theorem writeLocked_busy (engineer : s.inputs.engEnable.debounced = true) (mode : s.run.mode = .standby)
    (flying : s.run.validation ≠ none) : writeLocked w s = refuse .busy s := by
  simp [writeLocked, isEngineer, engineer, mode, Option.isSome_iff_ne_none.mpr flying]

/-- An entry that does not fit is refused. -/
theorem writeLocked_misfit (engineer : s.inputs.engEnable.debounced = true) (mode : s.run.mode = .standby)
    (idle : s.run.validation = none) (misfit : storeEntry s.tables w = none) : writeLocked w s = refuse .badArgument s := by
  simp [writeLocked, isEngineer, engineer, mode, idle, misfit]

/-- A write that passes its checks stores its entry and clears the validation mark; one of CONFIGURATION then completes the holds that have
lasted the new debounce time (R2, R175, R195). -/
theorem writeLocked_stored (engineer : s.inputs.engEnable.debounced = true) (mode : s.run.mode = .standby)
    (idle : s.run.validation = none) (fits : storeEntry s.tables w = some t) :
    writeLocked w s = accept (if isConfiguration w then completeHolds (clearMark (s.setTables t)) else clearMark (s.setTables t)) := by
  simp [writeLocked, isEngineer, engineer, mode, idle, fits]

/-- The state that a write leaves holds the messages of the state before it. -/
theorem stored_results : (if isConfiguration w then completeHolds (clearMark (s.setTables t)) else clearMark (s.setTables t)).port.results =
    s.port.results := by
  split
  · exact completeHolds_results
  · rfl

/-! ## READ_TABLE (R195) -/

/-- A read answers the entry as stored, or is refused, and changes nothing but the Result Queue. -/
theorem arrive_readTable {id : TableId} {i : Nat} (hs : Serving s) : arrive ⟨tag, .command (.readTable id i)⟩ s =
    match readEntry s.tables id i with
    | some e => s.withReply tag .ok (.entry e)
    | none => s.withReply tag .badArgument .none := by
  cases h : readEntry s.tables id i with
  | none => exact arrive_refused hs (by simp [handleCommand, handleReadTable, h])
  | some e => exact arrive_command hs (by simp only [handleCommand, handleReadTable, h]) rfl

/-! ## The statement -/

/-- Settles O56: a TAP write is stored or refused on its own fields; any other write meets its checks one after another, and its entry fits
as the conditions of its table say; a read answers what the table holds. -/
theorem tableCommands : Obligations.TableCommands := by
  intro tag s hs
  refine ⟨fun k => next_settle (arrive_refused hs rfl), fun i r inside => ?_, fun i inside => ?_,
    fun i r outside => next_settle (arrive_refused hs (handleWriteTable_badTap (storeTap_outside outside))),
    fun i k => next_settle (arrive_refused hs (handleWriteTable_badTap (storeTap_unknown i k))),
    fun w notTap known => ?_,
    fun t => ⟨storeEntry_segment, storeEntry_plan, storeEntry_mask, storeEntry_grade,
      storeEntry_template, fun i fs k unknown => ?_, storeEntry_none, storeEntry_calibration, fun i c => rfl⟩,
    fun id i => next_settle (arrive_readTable hs)⟩
  · exact next_settle (arrive_command hs (handleWriteTable_tap (storeTap_known inside r)) rfl)
  · exact next_settle (arrive_command hs (handleWriteTable_tap (storeTap_none inside)) rfl)
  · have locked := handleWriteTable_locked (tag := tag) (s := s) notTap known
    have refused {code : ReplyCode} (h : writeLocked w s = refuse code s) := next_settle (arrive_refused hs (locked.trans h))
    refine ⟨fun operator => refused (writeLocked_operator operator), fun engineer mode => refused (writeLocked_wrongMode engineer mode),
      fun engineer mode flying => refused (writeLocked_busy engineer mode flying), fun engineer mode idle =>
      ⟨fun misfit => refused (writeLocked_misfit engineer mode idle misfit), fun t fits => ?_⟩⟩
    refine (next_settle (arrive_command hs (locked.trans (writeLocked_stored engineer mode idle fits)) stored_results)).trans ?_
    cases w <;> rfl
  · simp [storeEntry, templateOf_unknown unknown]

end Sys2Proof.Machine
end

section
/-! PROOFS. The reading, the arrival and the service of commands (R191, R194), and the offers to the Result Queue (R193, R197 to R199). -/

namespace Sys2Proof.Machine

open Sys2Proof

variable {s : State} {p : Port}

/-! ## The arrival and the service of commands (R191, R194) -/

/-- A row of the station controller is the arrival of its message (log entry 3). -/
theorem exec_messageOf {i : Instr} {b : Buffered} (h : messageOf i = some b) : exec i s = .next (settle (arrive b s)) := by
  cases i <;> cases h <;> rfl

/-- A command can be taken where no reply waits and a reply slot is available. -/
theorem canTake_iff : canTake p = true ↔ p.waiting = none ∧ p.results.length < 48 := by
  simp [canTake, replyAvailable_iff]

/-- A message that is not taken at once joins the Command Buffer, or is discarded and counted where the buffer is full. -/
theorem arrive_not_serving (h : ¬Serving s) (b : Buffered) : arrive b s =
    if s.port.buffer.length < 4 then s.setPort { s.port with buffer := s.port.buffer ++ [b] }
    else s.setPort { s.port with discarded := satInc s.port.discarded } := by
  have busy : ¬(s.port.buffer.isEmpty && canTake s.port) = true := by
    simpa only [Bool.and_eq_true, List.isEmpty_iff, canTake_iff] using h
  rw [arrive, if_neg busy, Config.bufferPlaces]

/-- The head command is taken once a command can be. -/
theorem serve_cons {b : Buffered} {rest : List Buffered} (h : s.port.buffer = b :: rest) :
    serve s = if s.port.waiting = none ∧ s.port.results.length < 48 then some (takeCommand b (s.setPort { s.port with buffer := rest }))
      else none := by
  simp only [serve, h, canTake_iff]

/-! ## The reading of a message (R194, R195) -/

/-- The types whose commands carry fields. -/
def fieldTypes : List Nat := [1, 2, 5, 7, 8, 9, 10, 13, 14, 15, 16, 17, 19]

/-- No command is of type 0 or of a type above 21. -/
theorem requestOf_unknown {type : Nat} {payload : List Byte} (h : type = 0 ∨ 21 < type) : requestOf type payload = .unknown := if_pos h

/-- The types whose commands carry no fields, each with its command. -/
theorem emptyCommand_eq {type : Nat} {c : Command} (h : (type, c) ∈ [(3, Command.startRun), (4, .stopRun), (6, .resume), (11, .clearFault),
    (12, .resetPart), (18, .readStatus), (20, .readLot), (21, .readFaults)]) :
    ¬(type = 0 ∨ 21 < type) ∧ emptyCommand type = some c := by
  simp only [List.mem_cons, Prod.mk.injEq, List.not_mem_nil, or_false] at h
  rcases h with ⟨rfl, rfl⟩ | ⟨rfl, rfl⟩ | ⟨rfl, rfl⟩ | ⟨rfl, rfl⟩ | ⟨rfl, rfl⟩ | ⟨rfl, rfl⟩ | ⟨rfl, rfl⟩ | ⟨rfl, rfl⟩ <;>
    exact ⟨by decide, rfl⟩

/-- A command without fields is read from an empty payload, and any other is malformed. -/
theorem requestOf_empty {type : Nat} {c : Command} (known : ¬(type = 0 ∨ 21 < type)) (empty : emptyCommand type = some c)
    (payload : List Byte) : requestOf type payload = if payload = [] then .command c else .malformed := by
  simp only [requestOf, if_neg known, empty, List.isEmpty_iff]

/-- The type of a command with fields, and 0 for one without. -/
def fieldsType (c : Command) : Nat := if commandType c ∈ fieldTypes then commandType c else 0

/-- Under a type of commands with fields, a command is of its type exactly where it has fields and is of its type. -/
theorem fieldsType_eq_iff {type : Nat} {c : Command} (h : type ∈ fieldTypes) : fieldsType c = type ↔ commandType c = type := by
  unfold fieldsType
  split
  · rfl
  · next without => exact ⟨fun zero => absurd (zero ▸ h) (by decide), fun same => absurd (same ▸ h) without⟩

/-- A command with fields is read by the free layout of its type, and is malformed where that gives none, or one of another type. -/
theorem requestOf_fields {type : Nat} (h : type ∈ fieldTypes) (payload : List Byte) : requestOf type payload =
    match Config.decodeFields type payload with
    | some c => if fieldsType c = type then .command c else .malformed
    | none => .malformed := by
  have typed : ¬(type = 0 ∨ 21 < type) ∧ emptyCommand type = none := by
    revert h type
    simp only [fieldTypes, List.forall_mem_cons]
    decide
  obtain ⟨known, fielded⟩ := typed
  simp only [requestOf, if_neg known, fielded]
  cases Config.decodeFields type payload with
  | none => rfl
  | some c => simp only [fieldsType_eq_iff h]

/-! ## The offers to the Result Queue (R193, R197 to R199) -/

/-- A drop is counted once in each of the two counts. -/
theorem Port.countDrop_eq (few : p.unreported ≤ 4294967295) (less : p.dropped ≤ 4294967295) : p.countDrop =
    { p with unreported := min 4294967295 (p.unreported + 1), dropped := min 4294967295 (p.dropped + 1) } := by
  rw [Port.countDrop, satInc_eq_min few, satInc_eq_min less]

/-- The first STEP_REPORT of a queue is the one that is taken out of it. -/
theorem removeFirst_stepReport {old : StepReport} {back : List Message} : ∀ {front : List Message}, (∀ y, .stepReport y ∉ front) →
    removeFirst Message.isStepReport (front ++ .stepReport old :: back) = front ++ back
  | [], _ => rfl
  | m :: front, none_before => by
    have rest := removeFirst_stepReport (old := old) (back := back) (front := front) fun y hy => none_before y (List.mem_cons_of_mem _ hy)
    cases m with
    | stepReport y => exact absurd List.mem_cons_self (none_before y)
    | _ => simp [removeFirst, Message.isStepReport, rest]

/-- A queue has a STEP_REPORT to replace exactly where it holds one. -/
theorem any_isStepReport {l : List Message} : l.any Message.isStepReport = true ↔ ∃ y, .stepReport y ∈ l := by
  rw [List.any_eq_true]
  constructor
  · rintro ⟨m, hm, is⟩
    cases m with
    | stepReport y => exact ⟨y, hm⟩
    | _ => cases is
  · rintro ⟨y, hy⟩
    exact ⟨_, hy, rfl⟩

/-- A STEP_REPORT is placed where a non-reply slot is available. -/
theorem Port.offerStepReport_placed (x : StepReport) (h : p.results.length + p.reserved.toNat < 44) :
    p.offerStepReport x = p.place (.stepReport x) :=
  if_pos (nonReplyAvailable_iff.mpr h)

/-- Without a slot, a STEP_REPORT comes in the place of the oldest one of the queue, which is counted as dropped. -/
theorem Port.offerStepReport_replaces (x : StepReport) {front back : List Message} {old : StepReport}
    (full : 44 ≤ p.results.length + p.reserved.toNat) (h : p.results = front ++ .stepReport old :: back)
    (oldest : ∀ y, .stepReport y ∉ front) :
    p.offerStepReport x = { p.countDrop with results := front ++ back ++ [.stepReport x] } := by
  have held : p.results.any Message.isStepReport = true := any_isStepReport.mpr ⟨old, by simp [h]⟩
  have removed : removeFirst Message.isStepReport p.results = front ++ back := by rw [h, removeFirst_stepReport oldest]
  rw [Port.offerStepReport, if_neg (mt nonReplyAvailable_iff.mp (Nat.not_lt.mpr full)), if_pos held, removed]
  rfl

/-- Without a slot and with no STEP_REPORT in the queue, the offered one is dropped. -/
theorem Port.offerStepReport_dropped (x : StepReport) (full : 44 ≤ p.results.length + p.reserved.toNat)
    (h : ∀ y, .stepReport y ∉ p.results) : p.offerStepReport x = p.countDrop := by
  have none_held : ¬p.results.any Message.isStepReport = true := fun held => (any_isStepReport.mp held).elim h
  rw [Port.offerStepReport, if_neg (mt nonReplyAvailable_iff.mp (Nat.not_lt.mpr full)), if_neg none_held]

/-- A NOTICE is placed where a non-reply slot is available, and is dropped otherwise. -/
theorem Port.offerNotice_eq (p : Port) (e : Event) :
    p.offerNotice e = if p.results.length + p.reserved.toNat < 44 then p.place (.notice e) else p.countDrop := by
  simp only [Port.offerNotice, nonReplyAvailable_iff]

/-- An event joins the pending set, and makes a NOTICE where its kind is enabled: placed below 44 messages, dropped and counted otherwise. -/
theorem Port.handOver_eq (e : Event) (few : p.unreported ≤ 4294967295) (less : p.dropped ≤ 4294967295) :
    let pended := { p with alertPending := p.alertPending.set (noticeIndex (eventKind e)) true }
    p.handOver e =
      if p.noticeEnable[noticeIndex (eventKind e)] = false then pended
      else if p.results.length + p.reserved.toNat < 44 then { pended with results := p.results ++ [.notice e] }
      else { pended with
        unreported := min 4294967295 (p.unreported + 1), dropped := min 4294967295 (p.dropped + 1) } := by
  intro pended
  unfold Port.handOver
  cases p.noticeEnable[noticeIndex (eventKind e)] with
  | false => rfl
  | true =>
    rw [if_pos rfl, if_neg (by decide), Port.offerNotice_eq, Port.countDrop_eq (p := pended) few less]
    rfl

/-! ## The waiting reply and the drop report (R194, R197) -/

/-- The waiting reply is placed once a reply slot is available. -/
theorem waitingReply_placed {r : Reply} (h : s.port.waiting = some r) (slot : s.port.results.length < 48) :
    waitingReply s = some (s.setPort { s.port with waiting := none, results := s.port.results ++ [.reply r] }) := by
  simp only [waitingReply, h, replyAvailable_iff, slot, if_true]
  rfl

/-- The drop report takes its count once a non-reply slot is available. -/
theorem reportsDropped_placed (drops : 0 < s.port.unreported) (free : s.port.reserved = false) (slot : s.port.results.length < 44) :
    reportsDropped s =
      some (s.setPort ({ s.port with unreported := 0 }.handOver (.reportsDropped s.port.unreported))) := by
  have available : nonReplyAvailable s.port = true := nonReplyAvailable_iff.mpr (by simpa [free] using slot)
  simp only [reportsDropped, available, drops, decide_true, Bool.and_self, if_true]
  rfl

/-! ## The statement -/

/-- Settles O58: one equation for each way that a message can arrive, be read and be served, and for each way that a message can be
offered to the Result Queue. -/
theorem commandService : Obligations.CommandService := by
  refine ⟨fun i b s row => ?_, fun tag type s hs => ?_, fun type payload => ⟨requestOf_unknown, fun c empty => ?_, fun fields => ?_⟩,
    fun b rest s head => ?_, fun r s waiting slot => congrArg Host.Outcome.next (happen_some (waitingReply_placed waiting slot)),
    fun s drops free slot => congrArg Host.Outcome.next (happen_some (reportsDropped_placed drops free slot)), fun x p few less => ?_,
    fun e p => Port.handOver_eq e⟩
  · rw [exec_messageOf row]
    refine ⟨fun hs => next_settle (arrive_serving hs b), fun away place => next_settle ?_, fun away full few => next_settle ?_⟩
    · rw [arrive_not_serving away, if_pos place]
    · rw [arrive_not_serving away, if_neg (Nat.not_lt.mpr full), satInc_eq_min few]
  · have answered (q : Request) (code : ReplyCode) (h : handleRequest tag q s = refuse code s) :
        arrive ⟨tag, q⟩ s = s.withReply tag code .none := by
      rw [arrive_serving hs, takeCommand, h, refuse, reply_eq_withReply _ _ _ hs.2.2]
    exact ⟨next_settle (answered _ _ rfl), answered _ _ rfl, answered _ _ rfl⟩
  · obtain ⟨known, fieldless⟩ := emptyCommand_eq empty
    exact ⟨requestOf_empty known fieldless [], fun more => (requestOf_empty known fieldless payload).trans (if_neg more)⟩
  · refine (requestOf_fields fields payload).trans ?_
    cases Config.decodeFields type payload with
    | none => rfl
    | some c => cases c <;> rfl
  · rw [serve_cons head]
    exact ⟨fun idle slot => if_pos ⟨idle, slot⟩, fun busy => if_neg fun ⟨idle, slot⟩ => busy.elim (absurd idle) (Nat.not_le.mpr slot)⟩
  · refine ⟨Port.offerStepReport_placed x, fun full => ⟨fun front old back held oldest => ?_, fun none_held => ?_⟩⟩
    · rw [Port.offerStepReport_replaces x full held oldest, Port.countDrop_eq few less]
    · rw [Port.offerStepReport_dropped x full none_held, Port.countDrop_eq few less]

end Sys2Proof.Machine
end

section
/-! PROOFS. The moves of which every row of the table is composed, said once: what each does to the blocks of State, under the conditions at which
it is made. A property that every move keeps, every step keeps. -/

namespace Sys2Proof.Machine

open Sys2Proof

/-! ## The moves -/

/-- Two states of a nest with the same lifecycle, place, step, outputs and number of pairs. -/
def Alike (x y : Nest) : Prop :=
  y.state = x.state ∧ y.phase = x.phase ∧ y.step = x.step ∧ y.record.isSome = x.record.isSome ∧ y.pass = x.pass ∧
    y.reject = x.reject ∧ y.pairs.length = x.pairs.length

/-- A move of a block other than the nests, the Quiet Arbiter, the Correlator Bank and the Window Store. -/
inductive OuterMove (s : State) : State → Prop
  | inputs (x : Inputs) : OuterMove s (s.setInputs x)
  | permit (x : Permit) : OuterMove s (s.setPermit x)
  | conv (x : Converter) : OuterMove s (s.setConv x)
  | guard (x : Guard) : OuterMove s (s.setGuard x)
  | disposing (x : List NestId) : OuterMove s (s.setDisposing x)
  | pending (x : List Instr) : OuterMove s (s.setPending x)
  | port (x : Port) (results : x.results.length ≤ max s.port.results.length 48) (buffer : x.buffer.length ≤ max s.port.buffer.length 4) :
    OuterMove s (s.setPort x)
  | marker (x : Marker) (labels : x.labels.length ≤ max s.marker.labels.length 32) : OuterMove s (s.setMarker x)
  | lot (x : LotCounters) (counted : PassesCounted s → PassesCounted (s.setLot x)) : OuterMove s (s.setLot x)
  | run (x : RunControl) (history : x.history.length ≤ max s.run.history.length 16)
    (valid : RunningValidated s → RunningValidated (s.setRun x)) : OuterMove s (s.setRun x)
  | taps (x : Vector TapSource 8) : OuterMove s (s.setTables { s.tables with taps := x })
  | write (x : Tables) (mode : s.run.mode = .standby) : OuterMove s (clearMark (s.setTables x))

/-- A move of records between the four conditions of the Window Store (R77). -/
inductive StoreMove (s : State) : State → Prop
  | take {t : State} (taken : figureUnitTake s = some t) : StoreMove s t
  | free (computing : s.store.computing.isSome = true) : StoreMove s (freeComputed s)
  | release (b d k : Nat) : StoreMove s (s.setStore (s.store.release b d k))
  | declare (b a k : Nat) (id : StreamId) :
    StoreMove s (s.setStore { s.store with guardHold := s.store.guardHold.map (WindowRecord.declare b a k id) })
  | frame : StoreMove s (s.setStore s.store.frame)

/-- A move of nests, with their places in the shared blocks. -/
inductive NestMove (s : State) : State → Prop
  | alike (x : Vector Nest 4) (same : ∀ n : NestId, Alike (s.nest n) x[n]) : NestMove s (s.setNests x)
  | load (n : NestId) (empty : (s.nest n).state = .empty) : NestMove s (s.modNest n fun x => { x with state := .loaded })
  | start (n : NestId) (r : UnitRecord) (ready : (s.nest n).state = .loaded ∨ (s.nest n).state = .disposed) :
    NestMove s (startAt n r 0 0 true (s.modNest n (·.begin r)))
  | empty (n : NestId) (leaves : (s.nest n).state = .loaded ∨ (s.nest n).state = .disposing ∨ (s.nest n).state = .disposed) :
    NestMove s (s.modNest n Nest.emptied)
  | grade (n : NestId) (finishing : (s.nest n).state = .finishing) : NestMove s (s.modNest n (·.toDisposing false))
  | dispose (n : NestId) (pass : Bool) (disposing : (s.nest n).state = .disposing) : NestMove s (s.modNest n (·.toDisposed pass))
  | abort (n : NestId) (reason : AbortReason) (underTest : (s.nest n).state.underTest = true) : NestMove s (abortUnit n reason s)
  | retry (n : NestId) {t : State} (taken : retryStart n s = some t) : NestMove s t
  | settleEnd (n : NestId) {t : State} (taken : settleEnd n s = some t) : NestMove s t
  | pairGrant {t : State} (taken : pairGrant s = some t) : NestMove s t
  | windowOpen (n : NestId) {t : State} (taken : windowOpen n s = some t) : NestMove s t
  | lastWindowFrame (n : NestId) {t : State} (taken : lastWindowFrame n s = some t) : NestMove s t
  | windowClose {t : State} (taken : windowClose s = some t) : NestMove s t
  | windowlessStepEnd (n : NestId) {t : State} (taken : windowlessStepEnd n s = some t) : NestMove s t
  | quietGrant {t : State} (taken : quietGrant s = some t) : NestMove s t
  | loudGatePass {t : State} (taken : loudGatePass s = some t) : NestMove s t
  | withdraw : NestMove s (withdrawAll s)

/-- Every move of the part: of an outer block, of the Window Store, of a nest, or RESET_PART (R184). -/
inductive Move (s : State) : State → Prop
  | outer {t : State} (h : OuterMove s t) : Move s t
  | store {t : State} (h : StoreMove s t) : Move s t
  | nest {t : State} (h : NestMove s t) : Move s t
  | resetPart : Move s (resetPart s)

/-! ## What every move keeps -/

variable {s t u : State}

/-- A disposal reservation finds its nest in DISPOSING and its places free (R161). -/
theorem reservable_some {n : NestId} {r : UnitRecord} (h : reservable s n = some r) :
    (s.nest n).state = .disposing ∧ s.port.results.length < 44 ∧ (needsLabel r = true → s.marker.labels.length < 32) := by
  unfold reservable at h
  split at h
  · next disposing =>
    obtain ⟨_, free⟩ := Option.filter_eq_some_iff.mp h
    simp only [Bool.and_eq_true, Bool.or_eq_true, Bool.not_eq_true'] at free
    obtain ⟨⟨_, slot⟩, label⟩ := free
    refine ⟨disposing, nonReplyAvailable_length slot, fun needs => ?_⟩
    exact label.elim (by simp [needs]) of_decide_eq_true
  · cases h

/-- The Fault History grows to no more than its places (R181). -/
theorem pushHistory_length_le (h : List FaultRecord) (r : FaultRecord) : (pushHistory h r).length ≤ max h.length 16 := by
  unfold pushHistory Config.historyPlaces
  split <;> simp <;> omega

/-- The disposal of a graded unit hands over at most two events, each below 44 messages (R144, R193). -/
theorem countGraded_results_length (n : NestId) (r : UnitRecord) (d : Disposition) :
    (countGraded n r d s).port.results.length ≤ max s.port.results.length 44 := by
  have handed : ∀ (e : Event) (u : State) (l : LotCounters), u.port.results.length ≤ max s.port.results.length 44 →
      (handOver e (u.setLot l)).port.results.length ≤ max s.port.results.length 44 := fun e u l h => by
    have := handOver_length (s := u.setLot l) e
    simp only [State.setLot_port] at this
    omega
  unfold countGraded failCheck yieldCheck
  dsimp only
  (repeat' split) <;> simp [handed]

@[simp] theorem Port.offerStepReport_buffer (p : Port) (r : StepReport) : (p.offerStepReport r).buffer = p.buffer := by
  unfold Port.offerStepReport
  (repeat' split) <;> rfl

@[simp] theorem Port.answer_buffer (p : Port) (r : Reply) : (p.answer r).buffer = p.buffer := by
  unfold Port.answer
  split <;> rfl

/-- START_UNIT is accepted only on a nest in LOADED or DISPOSED (R8). -/
theorem startRefusal_none {n : NestId} {prior : Option Nat} (h : startRefusal s n prior = none) :
    (s.nest n).state = .loaded ∨ (s.nest n).state = .disposed := by
  unfold startRefusal at h
  split at h
  · cases h
  · split at h
    · cases h
    · next ready => simp at ready; tauto

/-- A write to the Tap Table changes no other table (R200). -/
theorem storeTap_eq {x y : Tables} {i : Nat} {r : Option TapArg} (h : storeTap x i r = some y) : ∃ taps, y = { x with taps := taps } := by
  unfold storeTap at h
  (repeat' split at h) <;> cases h <;> exact ⟨_, rfl⟩

/-- A property of the state after the release of RESET_N that every move keeps. -/
structure KeptByMoves (P : State → Prop) : Prop where
  powerOn : ∀ l q, P (State.powerOn l q)
  keep : ∀ {s t : State}, Move s t → P s → P t

namespace KeptByMoves

variable {P : State → Prop} (k : KeptByMoves P)
include k

theorem outer (h : OuterMove s t) (hs : P s) : P t := k.keep (.outer h) hs

theorem store (h : StoreMove s t) (hs : P s) : P t := k.keep (.store h) hs

theorem nest (h : NestMove s t) (hs : P s) : P t := k.keep (.nest h) hs

/-- An update of a nest that leaves it alike. -/
theorem modNest (n : NestId) {f : Nest → Nest} (same : ∀ x, Alike x (f x)) (hs : P s) : P (s.modNest n f) := by
  refine k.nest (.alike _ fun m => ?_) hs
  have := State.modNest_nest s n m (f := f)
  simp only [State.nest, State.modNest_def, State.setNests_nests] at this
  simp only [State.nest]
  rw [this]
  split
  · exact same _
  · exact ⟨rfl, rfl, rfl, rfl, rfl, rfl, rfl⟩

/-- An update of a Unit Record. -/
theorem modRecord (n : NestId) (f : UnitRecord → UnitRecord) (hs : P s) : P (s.modRecord n f) :=
  k.modNest n (fun x => ⟨rfl, rfl, rfl, by simp, rfl, rfl, rfl⟩) hs

/-- An update of the port that leaves its queues. -/
theorem portRest (x : Port) (results : x.results = s.port.results) (buffer : x.buffer = s.port.buffer) (hs : P s) : P (s.setPort x) :=
  k.outer (.port x (by rw [results]; omega) (by rw [buffer]; omega)) hs

/-- The handing over of an event (R196). -/
theorem handOver (e : Event) (hs : P s) : P (handOver e s) := by
  have length := handOver_length (s := s) e
  have buffer := (handOver_port_rest (s := s) e).1
  exact k.outer (.port _ (by exact length.trans (by omega)) (by exact buffer ▸ Nat.le_max_left _ _)) hs

/-- A change of the lot that leaves the rolling window. -/
theorem lotRest (x : LotCounters) (passes : x.passCount = s.lot.passCount) (outcomes : x.outcomes = s.lot.outcomes) (hs : P s) :
    P (s.setLot x) := k.outer (.lot x fun h => by simpa [PassesCounted, passes, outcomes] using h) hs

/-- A change of mode: into a running mode only from a running mode, or with the validation mark set (R171). -/
theorem changeMode (m : Mode) (c : ModeCause) (allowed : m.running = true → s.run.mode.running = true ∨ s.run.mark = true) (hs : P s) :
    P (changeMode m c s) := by
  refine k.handOver _ (k.outer (.run _ (Nat.le_max_left _ _) fun ⟨valid, marked⟩ => ⟨valid, fun running => ?_⟩) hs)
  exact (allowed running).elim marked id

/-- The record of a fault (R179). -/
theorem recordFault (kind : FaultKind) (detail : FaultDetail) (nest : Option NestId) (serial segment step : Option Nat) (action : Action)
    (hs : P s) : P (recordFault kind detail nest serial segment step action s) := by
  refine k.handOver _ (k.outer (.run _ ?_ fun valid => valid) hs)
  exact pushHistory_length_le _ _

/-! ## Aborts and the leaving of a running mode -/

/-- An abort (R17): of a nest whose unit is not under test it is no move. -/
theorem abort (n : NestId) (reason : AbortReason) (hs : P s) : P (abortUnit n reason s) := by
  by_cases h : (s.nest n).state.underTest = true
  · exact k.nest (.abort n reason h) hs
  · rw [abortUnit, if_neg h]; exact hs

/-- The aborts of one mode event (R17). -/
theorem abortAll (reason : AbortReason) (hs : P s) : P (abortAll reason s) :=
  List.foldlRecOn (motive := P) _ _ hs fun _ ht n _ => k.abort n reason ht

/-- The leaving of a running mode (R178). -/
theorem leaveRunning {m : Mode} (c : ModeCause) (stays : m.running = false) (hs : P s) : P (leaveRunning m c s) :=
  k.changeMode _ _ (by simp [stays]) (k.outer (.guard _) (k.outer (.permit _) (k.abortAll _ hs)))

/-- The mode effect of a fault (R180). -/
theorem applyStop (kind : FaultKind) (a : Action) (hs : P s) : P (applyStop kind a s) := by
  unfold Machine.applyStop
  split
  · exact k.leaveRunning _ rfl hs
  · exact hs

/-- The declaration of sync loss (R188). -/
theorem declareLoss (hs : P s) : P (declareLoss s) := by
  refine k.applyStop _ _ (k.recordFault _ _ _ _ _ _ _ (k.nest (.alike _ fun n => ?_) (k.outer (.conv _) hs)))
  simp only [State.nest, State.setConv_nests, Fin.getElem_fin, Vector.getElem_map, overloadIfOpen]
  split <;> exact ⟨rfl, rfl, rfl, rfl, rfl, rfl, rfl⟩

/-! ## Units -/

/-- A unit start on a nest in LOADED or DISPOSED (R9). -/
theorem startUnit (n : NestId) (plan : Nat) (prior : Option Nat) (ready : (s.nest n).state = .loaded ∨ (s.nest n).state = .disposed)
    (hs : P s) : P (startUnit n plan prior s) := by
  refine k.nest (.start n _ ready) (k.lotRest _ ?_ ?_ hs) <;>
  · unfold LotCounters.start LotCounters.takeSerial
    dsimp only
    (repeat' split) <;> rfl

/-- The entry of an EMPTY nest into LOADED (R6). -/
theorem enterLoaded (n : NestId) (empty : (s.nest n).state = .empty) (hs : P s) : P (enterLoaded n s) := by
  have loaded := k.nest (.load n empty) hs
  unfold Machine.enterLoaded
  dsimp only
  split
  · exact k.startUnit n _ _ (.inl (by simp)) loaded
  · exact loaded

/-- The entry of a nest into EMPTY (R6). -/
theorem enterEmpty (n : NestId) (leaves : (s.nest n).state = .loaded ∨ (s.nest n).state = .disposing ∨ (s.nest n).state = .disposed)
    (hs : P s) : P (enterEmpty n s) := by
  have emptied := k.nest (.empty n leaves) hs
  unfold Machine.enterEmpty
  dsimp only
  split
  · exact k.enterLoaded n (by simp [Nest.emptied]) emptied
  · exact emptied

/-- The delivery of a debounced edge (R1, R3). -/
theorem deliverEdge (i : Input) (rising : Bool) (hs : P s) : P (deliverEdge i rising s) := by
  have load (n : NestId) : P (loadEvent n s) := by
    unfold loadEvent
    split
    · next empty => exact k.enterLoaded n empty hs
    · exact hs
  have presentFall (n : NestId) : P (presentFall n s) := by
    unfold Machine.presentFall
    split
    · exact hs
    · next loaded => exact k.enterEmpty n (.inl loaded) hs
    · exact k.abort n _ hs
    · exact k.abort n _ hs
    · exact k.modNest n (fun x => ⟨rfl, rfl, rfl, rfl, rfl, rfl, rfl⟩) hs
    · next disposed => exact k.enterEmpty n (.inr (.inr disposed)) hs
  have clampFall (n : NestId) : P (clampFall n s) := by
    unfold Machine.clampFall
    split
    · exact hs
    · exact hs
    · exact hs
    · next loaded => exact k.enterEmpty n (.inl loaded) hs
    · exact k.abort n _ hs
    · exact k.abort n _ hs
  unfold Machine.deliverEdge
  cases i with
  | present n =>
    dsimp only
    (repeat' split)
    · exact load n
    · exact hs
    · exact presentFall n
  | clamp n =>
    dsimp only
    (repeat' split)
    · exact load n
    · exact hs
    · exact clampFall n
  | alertClr =>
    dsimp only
    split
    · exact k.portRest _ rfl rfl hs
    · exact hs
  | engEnable | markerReady => exact hs

/-- DEBOUNCED_EDGE (R1). -/
theorem debouncedEdge (i : Input) (h : debouncedEdge i s = some t) (hs : P s) : P t := by
  unfold Machine.debouncedEdge at h
  split at h
  · split at h <;> cases h
    exact k.deliverEdge _ _ (k.outer (.inputs _) hs)
  · cases h

/-- The holds that have lasted the debounce time (R2). -/
theorem completeHolds (hs : P s) : P (completeHolds s) := by
  refine List.foldlRecOn (motive := P) _ _ hs fun t ht i _ => ?_
  rcases attempt_cases (Machine.debouncedEdge i) t with ⟨_, stays⟩ | taken
  · rw [stays]; exact ht
  · exact k.debouncedEdge i taken ht

/-! ## Disposal -/

/-- The leaving of DISPOSING (R14, R21). -/
theorem leaveDisposing (n : NestId) (pass : Bool) (disposing : (s.nest n).state = .disposing) (hs : P s) :
    P (leaveDisposing n pass s) := by
  have left := k.outer (.disposing (s.disposing.filter fun m => !(m == n))) hs
  unfold Machine.leaveDisposing
  dsimp only
  split
  · exact k.enterEmpty n (.inr (.inl disposing)) left
  · exact k.nest (.dispose n pass disposing) left

/-- A UNIT_REPORT placed in a slot that is free (R193). -/
theorem placeReport (n : NestId) (r : UnitRecord) (slot : s.port.results.length < 48) (hs : P s) : P (placeReport n r s) :=
  k.outer (.port _ (by simp; omega) (Nat.le_max_left _ _)) hs

/-- The Lot Counters at the disposal of a graded unit (R144, R149): an append keeps the pass count. -/
theorem countGraded (n : NestId) (r : UnitRecord) (d : Disposition) (hs : P s) : P (countGraded n r d s) := by
  have appended : P (s.setLot
      ({ s.lot with counts := s.lot.counts.addGraded n (decide (d.bin = 0)) d.code r.prior.isSome }.append (decide (d.bin = 0)))) := by
    refine k.outer (.lot _ fun counted => ?_) hs
    simp only [PassesCounted, State.setLot_lot, LotCounters.append] at counted ⊢
    rw [counted]
    split
    · cases s.lot.outcomes with
      | nil => simp [List.count_cons]
      | cons first rest => cases first <;> simp [List.count_append, List.count_cons]
    · simp [List.count_append, List.count_cons]
  have checked : ∀ {u : State}, P u → P (yieldCheck r.serial n u) := fun {u} hu => by
    unfold yieldCheck
    dsimp only
    (repeat' split)
    · exact k.handOver _ (k.lotRest _ rfl rfl hu)
    · exact k.handOver _ (k.lotRest _ rfl rfl hu)
    · exact hu
  have failed : ∀ {u : State}, P u → P (failCheck n r.serial d.code d.bin u) := fun {u} hu => by
    unfold failCheck
    dsimp only
    split
    · exact k.handOver _ (k.lotRest _ rfl rfl hu)
    · exact k.lotRest _ rfl rfl hu
  exact failed (checked appended)

/-- DISPOSAL (R14). -/
theorem disposal (n : NestId) (h : disposal n s = some t) (hs : P s) : P t := by
  obtain ⟨r, reserved, h⟩ := Option.bind_eq_some_iff.mp h
  obtain ⟨d, graded, rfl⟩ := Option.map_eq_some_iff.mp h
  obtain ⟨disposing, slot, label⟩ := reservable_some reserved
  have counted : P (Machine.countGraded n r d (reserveSlot true s)) := k.countGraded n r d (k.portRest _ rfl rfl hs)
  have labelled : P (placeLabel n r d (Machine.countGraded n r d (reserveSlot true s))) := by
    unfold placeLabel
    split
    · next named =>
      have place := label (by simp [needsLabel, graded, named])
      exact k.outer (.marker _ (by simp; omega)) counted
    · exact counted
  refine k.leaveDisposing n _ (by simpa [State.nest] using disposing) (k.placeReport n r ?_ labelled)
  have length := countGraded_results_length (s := reserveSlot true s) n r d
  have unchanged : (reserveSlot true s).port.results = s.port.results := rfl
  rw [unchanged] at length
  simp only [placeLabel_frame]
  omega

/-- ABORTED_DISPOSAL (R21). -/
theorem abortedDisposal (n : NestId) (h : abortedDisposal n s = some t) (hs : P s) : P t := by
  obtain ⟨r, reserved, h⟩ := Option.bind_eq_some_iff.mp h
  obtain ⟨disposing, slot, _⟩ := reservable_some reserved
  split at h <;> cases h
  have counted : P (countAborted (reserveSlot true s)) := k.lotRest _ rfl rfl (k.portRest _ rfl rfl hs)
  refine k.leaveDisposing n _ (by simpa [State.nest] using disposing) (k.placeReport n r ?_ counted)
  have unchanged : (reserveSlot true s).port.results = s.port.results := rfl
  simp only [countAborted_frame, unchanged]
  omega

/-- A disposal reservation (R162). -/
theorem reserveNext (h : reserveNext s = some t) (hs : P s) : P t := by
  obtain ⟨n, _, hn⟩ := List.exists_of_findSome?_eq_some h
  rcases Option.or_eq_some_iff.mp ((Option.orElse_eq_or ..).symm.trans hn) with graded | ⟨_, aborted⟩
  · exact k.disposal n graded hs
  · exact k.abortedDisposal n aborted hs

/-! ## The marker line -/

/-- A change of the Marker Line Controller that leaves the Label Queue no longer. -/
theorem markerRest (x : Marker) (labels : x.labels.length ≤ s.marker.labels.length) (hs : P s) : P (s.setMarker x) :=
  k.outer (.marker x (by omega)) hs

/-- A failure on the marker line (R168, R169). -/
theorem markerFailure (f : MarkerFailure) (hs : P s) : P (markerFailure f s) := by
  unfold Machine.markerFailure
  split
  · exact k.markerRest _ le_rfl hs
  · have recorded := k.recordFault .markerFault (.marker f) (s.marker.labels.head?.map (·.nest)) (s.marker.labels.head?.map (·.serial)) none none
      (actionOf s.tables.config.actionMarker) (k.markerRest (s.marker.failed 0) le_rfl hs)
    refine k.applyStop _ _ ?_
    unfold markerFaultEffect discardLabel
    split
    · split
      · exact recorded
      · next l rest labels => exact k.handOver _ (k.markerRest _ (by rw [labels]; exact Nat.le_succ _) recorded)
    · exact k.markerRest _ le_rfl recorded

/-! ## The Figure Unit and the Guard Monitor -/

/-- FIGURE_UNIT_COMPLETION (R100, R101). -/
theorem figureUnitCompletion (h : figureUnitCompletion s = some t) (hs : P s) : P t := by
  unfold Machine.figureUnitCompletion at h
  split at h
  · cases h
  · next c computing =>
    have free : ∀ {u : State}, u.store = s.store → P u → P (freeComputed u) := fun store hu =>
      k.store (.free (by simp [store, computing])) hu
    split at h <;> cases h
    · exact free rfl hs
    · split
      · exact free (by simp) (k.modRecord _ _ hs)
      · refine free (by simp) ?_
        unfold offerStepReport
        split
        · exact k.outer (.port _ ((Port.offerStepReport_length _ _).trans (by omega))
            (by rw [Port.offerStepReport_buffer]; omega)) (k.modRecord _ _ hs)
        · exact k.modRecord _ _ hs

/-- GUARD_BLOCK_END (R85). -/
theorem guardBlockEnd (h : guardBlockEnd s = some t) (hs : P s) : P t := by
  have raised : ∀ {u : State} (b : Nat) (id : StreamId) (x : Stream) (declared : Bool) (level : Int) (clipped : Bool), P u →
      P (raiseExceeded b id x declared level clipped u) := fun {u} b id x declared level clipped hu => by
    unfold raiseExceeded
    split
    · exact k.handOver _ hu
    · exact hu
  have declared : ∀ {u : State} (b j : Nat) (id : StreamId) (first : Option Nat), P u → P (declareBlocks b j id first u) :=
    fun {u} b j id first hu => by
      unfold declareBlocks
      split
      · exact hu
      · exact k.outer (.guard _) (k.store (.declare _ _ _ _) hu)
  unfold Machine.guardBlockEnd at h
  split at h <;> cases h
  exact k.store (.release _ _ _) (declared _ _ _ _ (declared _ _ _ _ (raised _ _ _ _ _ _ (raised _ _ _ _ _ _ (k.outer (.guard _) hs)))))

/-! ## The permit's arrival and PERMIT_TIMEOUT -/

/-- PERMIT_ARRIVAL (R54 to R56). -/
theorem permitArrival (h : permitArrival s = some t) (hs : P s) : P t := by
  unfold Machine.permitArrival at h
  have cleared : P (s.setPermit { s.permit with latch := false, due := false }) := k.outer (.permit _) hs
  (repeat' split at h) <;> cases h
  · exact cleared
  · exact k.outer (.permit _) cleared
  · exact k.outer (.permit _) cleared
  · exact k.applyStop _ _ (k.recordFault _ _ _ _ _ _ _ cleared)

/-- PERMIT_TIMEOUT (R59, R60). -/
theorem permitTimeout (h : permitTimeout s = some t) (hs : P s) : P t := by
  unfold Machine.permitTimeout at h
  dsimp only at h
  have recorded (a : Action) : P (recordTimeout a s) := k.recordFault _ _ _ _ _ _ _ hs
  (repeat' split at h) <;> cases h
  · exact k.applyStop _ _ (k.outer (.permit _) (recorded _))
  · exact k.nest .withdraw (recorded _)
  · exact k.applyStop _ _ (recorded _)

/-- DISPOSAL_STALL (R15). -/
theorem disposalStall (n : NestId) (h : disposalStall n s = some t) (hs : P s) : P t := by
  unfold Machine.disposalStall at h
  (repeat' split at h) <;> cases h
  exact k.applyStop _ _ (k.recordFault _ _ _ _ _ _ _ (k.modNest n (fun x => ⟨rfl, rfl, rfl, rfl, rfl, rfl, rfl⟩) hs))

/-! ## Runs and commands -/

/-- The Lot Counters at a run start (R148, R151). -/
theorem lotRunStart (hs : P s) : P (lotRunStart s) := by
  have emptied : P (s.setLot ({ s.lot with settings := lotSettings s.tables.config }.emptyWindow)) := k.outer (.lot _ fun _ => rfl) hs
  unfold Machine.lotRunStart recoveredBy
  dsimp only
  (repeat' split)
  · exact k.lotRest _ rfl rfl hs
  · exact k.handOver _ emptied
  · exact emptied

/-- The start of a run by a part whose validation mark is set (R175). -/
theorem enterRun (marked : s.run.mark = true) (hs : P s) : P (enterRun s) := by
  have cleared := k.outer (.guard Guard.start) (k.outer (.conv { s.conv with frameNumber := 0 }) hs)
  have started : P (permitRunStart ((s.setConv { s.conv with frameNumber := 0 }).setGuard Guard.start)) := by
    unfold permitRunStart
    split
    · exact k.outer (.permit _) cleared
    · exact cleared
  exact k.changeMode _ _ (fun _ => .inr (by simpa using marked)) (k.lotRunStart started)

/-- A reply placed in the Result Queue, or made the waiting one (R194). -/
theorem reply (tag : Byte) (a : State × Answer) (hs : P a.1) : P (reply tag a) := by
  unfold Machine.reply
  split
  · exact k.outer (.port _ (Port.answer_length _ _) (by rw [Port.answer_buffer]; omega)) hs
  · exact hs

/-- VALIDATION_COMPLETION (R173): the mark is set where the tables pass every check. -/
theorem validationCompletion (h : validationCompletion s = some t) (hs : P s) : P t := by
  unfold Machine.validationCompletion at h
  have ended (mark : Bool) (allowed : (mark = true → validate s.tables = none) ∨ mark = s.run.mark) (kept : s.run.mark = true → mark = true) :
      P (endValidation mark s) := by
    refine k.outer (.run _ (Nat.le_max_left _ _) fun ⟨valid, marked⟩ => ⟨fun set => ?_, fun running => kept (marked running)⟩) hs
    exact allowed.elim (fun found => found set) fun same => valid (same ▸ set)
  split at h
  · cases h
  · split at h <;> cases h
    · exact k.reply _ _ (ended _ (.inr rfl) id)
    · next valid =>
      have marked := ended true (.inl fun _ => valid) fun _ => rfl
      refine k.reply _ _ ?_
      split
      · exact k.enterRun rfl marked
      · exact marked

/-- WRITE_TABLE (R195): the tables that validation reads change only in STANDBY, and the mark is cleared. -/
theorem handleWriteTable (w : TableWrite) (hs : P s) : P (handleWriteTable w s).1 := by
  have locked : P (writeLocked w s).1 := by
    unfold writeLocked
    split
    · exact hs
    · split
      · exact hs
      · next standby =>
        split
        · exact hs
        · split
          · exact hs
          · next x _ =>
            have written := k.outer (.write x (not_not.mp standby)) hs
            dsimp only [accept]
            split
            · exact k.completeHolds written
            · exact written
  cases w with
  | unknown => exact hs
  | tap i r =>
    simp only [Machine.handleWriteTable]
    split
    · exact hs
    · next x stored =>
      obtain ⟨y, rfl⟩ := storeTap_eq stored
      exact k.outer (.taps y) hs
  | _ => exact locked

/-- The handling of a command (R194): a refusal and a reading change nothing. -/
theorem handleCommand (tag : Byte) (c : Command) (hs : P s) : P (handleCommand tag c s).1 := by
  cases c with
  | writeTable w => exact k.handleWriteTable w hs
  | startRun =>
    simp only [Machine.handleCommand, handleStartRun]
    split
    · exact hs
    · split
      · exact hs
      · split
        · exact hs
        · split
          · next marked => exact k.enterRun marked hs
          · exact k.outer (.run _ (Nat.le_max_left _ _) id) hs
  | stopRun =>
    simp only [Machine.handleCommand, handleStopRun]
    split
    · exact k.leaveRunning _ rfl hs
    · exact hs
  | holdSmart =>
    simp only [Machine.handleCommand, handleHoldSmart]
    split
    · next run => exact k.changeMode _ _ (fun _ => .inl (by simp [run, Mode.running])) hs
    · exact hs
  | holdForce =>
    simp only [Machine.handleCommand, handleHoldForce]
    split
    · next holds => exact k.changeMode _ _ (fun _ => .inl (by rcases holds with run | holding <;> simp [*, Mode.running])) (k.abortAll _ hs)
    · exact hs
  | resume =>
    simp only [Machine.handleCommand, handleResume]
    split
    · next holds => exact k.changeMode _ _ (fun _ => .inl (by rcases holds with holding | held <;> simp [*, Mode.running])) hs
    · exact hs
  | newLot lotId serialPrefix serial =>
    simp only [Machine.handleCommand, handleNewLot]
    split
    · exact hs
    · next v _ =>
      have opened : P (s.setLot (s.lot.opened lotId serialPrefix v)) := k.outer (.lot _ fun _ => rfl) hs
      (repeat' split)
      · exact hs
      · exact hs
      · simp only [accept, openLot, recoveredBy]
        split
        · exact k.handOver _ opened
        · exact opened
  | startUnit nest plan prior =>
    simp only [Machine.handleCommand, handleStartUnit]
    split
    · next n p _ _ =>
      split
      · exact hs
      · split
        · exact hs
        · next allowed => exact k.startUnit n plan p (startRefusal_none allowed) hs
    · exact hs
  | abortUnit nest =>
    simp only [Machine.handleCommand, handleAbortUnit]
    split
    · exact hs
    · split
      · exact k.abort _ _ hs
      · exact hs
  | clearNestAlert nest =>
    simp only [Machine.handleCommand, handleClearNestAlert]
    split
    · exact hs
    · exact k.lotRest _ rfl rfl hs
  | clearFault =>
    simp only [Machine.handleCommand, handleClearFault]
    split
    · exact hs
    · have cleared : P (clearFaults s) := k.markerRest _ le_rfl (k.outer (.run _ (Nat.le_max_left _ _) id) hs)
      simp only [accept]
      split
      · exact k.changeMode _ _ (by simp [Mode.running]) cleared
      · exact cleared
  | resetPart =>
    simp only [Machine.handleCommand, handleResetPart]
    split
    · exact k.keep .resetPart hs
    · exact hs
  | setNotices | clearNotices | setAlerts | clearAlerts | ackAlerts =>
    simp only [Machine.handleCommand, handleSetNotices, handleClearNotices, handleSetAlerts, handleClearAlerts, handleAckAlerts, handleKinds]
    split
    · exact hs
    · exact k.portRest _ rfl rfl hs
  | readTable table index =>
    simp only [Machine.handleCommand, handleReadTable]
    split <;> exact hs
  | readNest nest =>
    simp only [Machine.handleCommand, handleReadNest]
    split <;> exact hs
  | readStatus | readLot | readFaults => exact hs

/-- The taking of a command (R194). -/
theorem takeCommand (b : Buffered) (hs : P s) : P (takeCommand b s) := by
  refine k.reply _ _ ?_
  unfold handleRequest
  split
  · exact hs
  · exact hs
  · exact k.handleCommand _ _ hs

/-- The arrival of a message (R191). -/
theorem arrive (b : Buffered) (hs : P s) : P (arrive b s) := by
  unfold Machine.arrive
  split
  · exact k.takeCommand b hs
  · split
    · next place => exact k.outer (.port _ (Nat.le_max_left _ _) (by simp [Config.bufferPlaces] at place ⊢; omega)) hs
    · exact k.portRest _ rfl rfl hs

/-! ## The induction over the table -/

/-- What every move keeps, every consequence of an event keeps (log entry 7). -/
theorem consequence {event : State → Option State} (mem : event ∈ internals) (h : event s = some t) (hs : P s) : P t := by
  have zero {n : NestId} (h : zeroSettle n s = some t) : P t := by
    unfold zeroSettle at h
    split at h
    · exact k.nest (.settleEnd n h) hs
    · cases h
  have grade {n : NestId} (h : grading n s = some t) : P t := by
    unfold grading at h
    split at h
    · cases h
    · next r finished =>
      split at h <;> cases h
      obtain ⟨finishing, _⟩ := finishedRecord_iff.mp finished
      exact k.outer (.disposing _) (k.nest (.grade n (by simpa using finishing)) (k.modRecord n _ hs))
  simp only [internals, List.mem_cons, List.not_mem_nil, or_false] at mem
  rcases mem with rfl | rfl | rfl | rfl | rfl | rfl | rfl | rfl | rfl | rfl | rfl | rfl | rfl | rfl | rfl | rfl | rfl | rfl | rfl | rfl | rfl | rfl |
    rfl | rfl | rfl
  case _ =>
    unfold permitPass at h
    split at h <;> cases h
    exact k.outer (.permit _) hs
  case _ => exact k.nest (.quietGrant h) hs
  case _ => exact k.nest (.loudGatePass h) hs
  case _ =>
    unfold waitTimerChange at h
    (repeat' split at h) <;> cases h <;> exact k.outer (.permit _) hs
  case _ => exact k.nest (.windowClose h) hs
  case _ => exact k.nest (.pairGrant h) hs
  iterate 4 case _ => exact zero h
  iterate 4 case _ => exact k.nest (.retry _ h) hs
  iterate 4 case _ => exact grade h
  case _ => exact k.store (.take h) hs
  case _ => exact k.reserveNext h hs
  case _ =>
    unfold markerFrameStart at h
    (repeat' split at h) <;> cases h
    exact k.markerRest _ le_rfl hs
  case _ =>
    unfold waitingReply at h
    (repeat' split at h) <;> cases h
    next slot =>
    have := replyAvailable_iff.mp slot
    exact k.outer (.port _ (by simp; omega) (Nat.le_max_left _ _)) hs
  case _ =>
    unfold reportsDropped at h
    split at h <;> cases h
    exact k.handOver _ (k.portRest _ rfl rfl hs)
  case _ =>
    unfold heldReached at h
    split at h <;> cases h
    next holding =>
    have mode : s.run.mode = .holding := by simpa using (Bool.and_eq_true_iff.mp holding).1
    exact k.changeMode _ _ (fun _ => .inl (by rw [mode]; rfl)) hs
  case _ =>
    unfold serve at h
    (repeat' split at h) <;> cases h
    next buffer _ =>
    exact k.takeCommand _ (k.outer (.port _ (Nat.le_max_left _ _) (by simp [buffer])) hs)

/-- What every move keeps, every due event keeps (log entry 6). -/
theorem due {event : State → Option State} (mem : event ∈ dueEvents) (h : event s = some t) (hs : P s) : P t := by
  rcases List.mem_append.mp mem with mem | edge
  · simp only [List.mem_cons, List.not_mem_nil, or_false] at mem
    rcases mem with rfl | rfl | rfl | rfl | rfl | rfl | rfl | rfl | rfl | rfl | rfl | rfl | rfl | rfl | rfl | rfl | rfl | rfl | rfl | rfl | rfl |
      rfl | rfl | rfl | rfl | rfl | rfl | rfl | rfl
    case _ =>
      unfold computationOverdue at h
      split at h
      · exact k.figureUnitCompletion h hs
      · cases h
    case _ =>
      unfold validationOverdue at h
      split at h
      · exact k.validationCompletion h hs
      · cases h
    iterate 4
      case _ => exact k.nest (.settleEnd _ h) hs
      case _ => exact k.nest (.windowOpen _ h) hs
      case _ => exact k.nest (.lastWindowFrame _ h) hs
      case _ => exact k.nest (.windowlessStepEnd _ h) hs
    case _ => exact k.guardBlockEnd h hs
    case _ => exact k.permitArrival h hs
    case _ =>
      unfold permitPulseEnd at h
      (repeat' split at h) <;> cases h
      exact k.outer (.permit _) hs
    case _ =>
      unfold permitGapEnd at h
      split at h
      case h_2 => cases h
      split at h <;> cases h
      exact k.outer (.permit _) hs
    case _ =>
      unfold holdLimitExpiry at h
      split at h <;> cases h
      exact k.outer (.permit _) hs
    case _ => exact k.permitTimeout h hs
    iterate 4 case _ => exact k.disposalStall _ h hs
    case _ =>
      unfold replyTimeout at h
      split at h <;> cases h
      exact k.markerFailure _ hs
  · obtain ⟨i, _, rfl⟩ := List.mem_map.mp edge
    exact k.debouncedEdge i h hs

/-- The passing of time (log entry 5). -/
theorem tick (j : Nat) (hs : P s) : P (tick j s) := by
  refine k.outer (.run _ (Nat.le_max_left _ _) id) (k.markerRest _ le_rfl (k.outer (.permit _) (k.nest (.alike _ fun n => ?_)
    (k.outer (.inputs _) hs))))
  simp only [State.nest, State.setInputs_nests, Fin.getElem_fin, Vector.getElem_map]
  exact ⟨rfl, rfl, rfl, rfl, rfl, rfl, rfl⟩

/-- The frame of every block (R187). -/
theorem frame (f : InFrame) (timed : Bool) (hs : P s) : P (runFrame f timed s) := by
  refine k.store .frame (k.outer (.permit _) (k.outer (.guard _) (k.nest (.alike _ fun n => ?_) (k.outer (.conv _) hs))))
  have framed (n : NestId) : Alike (s.nest n) (nestFrame s f timed s.conv.frameNumber n) := by
    unfold nestFrame Nest.frame
    dsimp only
    split
    · exact ⟨rfl, rfl, rfl, rfl, rfl, rfl, List.length_map _⟩
    · exact ⟨rfl, rfl, rfl, rfl, rfl, rfl, rfl⟩
  fin_cases n <;> exact framed _

/-- The one induction over the table: what every move keeps, the operations of every row keep. -/
theorem kept : Kept P where
  powerOn := k.powerOn
  pending s q hs := k.outer (.pending q) hs
  consequence _ mem _ _ hs h := k.consequence mem h hs
  due _ mem _ _ hs h := k.due mem h hs
  completion _ _ hs h := k.figureUnitCompletion h hs
  validated _ _ hs h := k.validationCompletion h hs
  graded n _ _ hs h := k.disposal n h hs
  aborted n _ _ hs h := k.abortedDisposal n h hs
  sent s t hs h := by
    unfold sendCompletion at h
    split at h <;> cases h
    exact k.markerRest _ le_rfl hs
  ack s t hs h := by
    unfold takeAck at h
    split at h <;> cases h
    exact k.markerRest _ (by simp) hs
  nak s t hs h := by
    unfold takeNak at h
    split at h <;> cases h
    exact k.markerFailure _ hs
  level i b s hs := k.outer (.inputs _) hs
  latch s hs := k.outer (.permit _) hs
  loss s hs := k.declareLoss hs
  leave m rest s results hs := k.outer (.port _ (by simp [results]) (Nat.le_max_left _ _)) hs
  sending l s hs := k.portRest _ rfl rfl hs
  upstream l s hs := k.portRest _ rfl rfl hs
  assembly l s hs := k.portRest _ rfl rfl hs
  holdOff b s hs := k.portRest _ rfl rfl hs
  badMessage s hs := k.portRest _ rfl rfl hs
  badFrame s hs := k.portRest _ rfl rfl hs
  arrive b s hs := k.arrive b hs
  tick j s hs := k.tick j hs
  frame f b s hs := k.frame f b hs

end KeptByMoves
end Sys2Proof.Machine
end

section
/-! PROOFS. What each kind of move leaves as it is, and the invariants of one block: the Window Store (R77, R78), the bounds of the queues, the
validation mark, the pass count, and the quiet holder with the loud-past set. -/

namespace Sys2Proof.Machine

open Sys2Proof

variable {s t : State}

/-! ## What each kind of move leaves -/

/-- An outer move leaves the nests and the shared blocks in which they have places. -/
theorem OuterMove.inner_eq (h : OuterMove s t) : t.nests = s.nests ∧ t.arbiter = s.arbiter ∧ t.bank = s.bank ∧ t.store = s.store := by
  cases h <;> exact ⟨rfl, rfl, rfl, rfl⟩

/-- A move of the Window Store leaves every other block, and the close-wait list. -/
theorem StoreMove.rest_eq (h : StoreMove s t) : t.nests = s.nests ∧ t.arbiter = s.arbiter ∧ t.bank = s.bank ∧ t.port = s.port ∧
    t.marker = s.marker ∧ t.lot = s.lot ∧ t.run = s.run ∧ t.tables = s.tables ∧ t.store.closeWait = s.store.closeWait := by
  cases h with
  | take taken =>
    unfold figureUnitTake at taken
    split at taken <;> cases taken
    exact ⟨rfl, rfl, rfl, rfl, rfl, rfl, rfl, rfl, rfl⟩
  | _ => exact ⟨rfl, rfl, rfl, rfl, rfl, rfl, rfl, rfl, rfl⟩

/-- A move of a nest leaves the port, the marker line, the lot, the Run Controller and the tables. -/
theorem NestMove.outer_eq (h : NestMove s t) :
    t.port = s.port ∧ t.marker = s.marker ∧ t.lot = s.lot ∧ t.run = s.run ∧ t.tables = s.tables := by
  cases h with
  | retry n taken => simp [retryStart_frame n taken]
  | settleEnd n taken => simp [settleEnd_frame n taken]
  | pairGrant taken => simp [pairGrant_frame taken]
  | windowOpen n taken => simp [windowOpen_frame n taken]
  | lastWindowFrame n taken => simp [lastWindowFrame_frame n taken]
  | windowClose taken => simp [windowClose_frame taken]
  | windowlessStepEnd n taken => simp [windowlessStepEnd_frame n taken]
  | quietGrant taken => simp [quietGrant_frame taken]
  | loudGatePass taken => simp [loudGatePass_frame taken]
  | _ => simp

/-! ## The bounds of the queues -/

theorem queuesBounded_keptByMoves : KeptByMoves QueuesBounded where
  powerOn l q := ⟨Nat.zero_le _, Nat.zero_le _, Nat.zero_le _, Nat.zero_le _⟩
  keep move bounded := by
    cases move with
    | outer h =>
      obtain ⟨results, buffer, labels, history⟩ := bounded
      cases h with
      | port x placed buffered => exact ⟨by simp; omega, by simp; omega, labels, history⟩
      | marker x queued => exact ⟨results, buffer, by simp; omega, history⟩
      | run x recorded _ => exact ⟨results, buffer, labels, by simp; omega⟩
      | _ => exact ⟨results, buffer, labels, history⟩
    | store h =>
      obtain ⟨_, _, _, port, marker, _, run, _⟩ := h.rest_eq
      simpa only [QueuesBounded, port, marker, run] using bounded
    | nest h =>
      obtain ⟨port, marker, _, run, _⟩ := h.outer_eq
      simpa only [QueuesBounded, port, marker, run] using bounded
    | resetPart => exact ⟨Nat.zero_le _, Nat.zero_le _, Nat.zero_le _, bounded.2.2.2⟩

/-- Settles O12: of the outer moves those of the port, the marker line and the Run Controller carry the bounds. -/
theorem stepKeepsQueueBounds : Obligations.StepKeepsQueueBounds := fun _ _ bounded h =>
  queuesBounded_keptByMoves.kept.step_keeps bounded h

/-! ## The validation mark -/

theorem runningValidated_keptByMoves : KeptByMoves RunningValidated where
  powerOn l q := ⟨fun marked => (nomatch marked), fun running => nomatch running⟩
  keep move validated := by
    cases move with
    | outer h =>
      cases h with
      | run x _ valid => exact valid validated
      | write x standby => exact ⟨fun marked => (nomatch marked), fun running => by simp [clearMark, standby, Mode.running] at running⟩
      | _ => exact validated
    | store h =>
      obtain ⟨_, _, _, _, _, _, run, tables, _⟩ := h.rest_eq
      simpa only [RunningValidated, run, tables] using validated
    | nest h =>
      obtain ⟨_, _, _, run, tables⟩ := h.outer_eq
      simpa only [RunningValidated, run, tables] using validated
    | resetPart => exact ⟨fun marked => (nomatch marked), fun running => nomatch running⟩

/-- Settles O13: the mark is set by a validation that finds no failure, and cleared by a write to a table that validation reads. -/
theorem stepKeepsRunningValidated : Obligations.StepKeepsRunningValidated := fun _ _ validated h =>
  runningValidated_keptByMoves.kept.step_keeps validated h

/-! ## The pass count -/

theorem passesCounted_keptByMoves : KeptByMoves PassesCounted where
  powerOn l q := rfl
  keep move counted := by
    cases move with
    | outer h =>
      cases h with
      | lot x kept => exact kept counted
      | _ => exact counted
    | store h =>
      obtain ⟨_, _, _, _, _, lot, _⟩ := h.rest_eq
      simpa only [PassesCounted, lot] using counted
    | nest h =>
      obtain ⟨_, _, lot, _⟩ := h.outer_eq
      simpa only [PassesCounted, lot] using counted
    | resetPart => rfl

/-- Settles O15: an append adds the outcome to both sides and takes the oldest from both; every other change of the window empties it. -/
theorem stepKeepsPassCount : Obligations.StepKeepsPassCount := fun _ _ counted h => passesCounted_keptByMoves.kept.step_keeps counted h

/-! ## The Window Store (R77, R78) -/

/-- A change of the close-wait list moves no record. -/
theorem closeWindow_total (n : NestId) (free : 0 < s.store.free) : (closeWindow n s).store.total = s.store.total := by
  rcases closeWindow_store (s := s) n with ⟨r, st, _, _, taken⟩ | left
  · rw [taken, Store.takeRecord_total _ _ free]
  · rw [left]; rfl

/-- A move of a nest leaves the number of records of the Window Store (R77). -/
theorem NestMove.total_eq (h : NestMove s t) : t.store.total = s.store.total := by
  cases h with
  | abort n reason _ =>
    rcases abortUnit_store (s := s) n reason with same | dropped
    · rw [same]
    · rw [dropped, Store.drop_total]; rfl
  | retry n taken => simp [retryStart_frame n taken]
  | settleEnd n taken => simp [settleEnd_frame n taken]
  | pairGrant taken => simp [pairGrant_frame taken]
  | windowOpen n taken => simp [windowOpen_frame n taken]
  | lastWindowFrame n taken =>
    unfold Machine.lastWindowFrame at taken
    (repeat' split at taken) <;> cases taken
    · next free => exact closeWindow_total n (by simpa using (Bool.and_eq_true_iff.mp free).1)
    · rfl
  | windowClose taken =>
    unfold Machine.windowClose at taken
    (repeat' split at taken) <;> cases taken
    next free => exact closeWindow_total _ free
  | windowlessStepEnd n taken => simp [windowlessStepEnd_frame n taken]
  | quietGrant taken => simp [quietGrant_frame taken]
  | loudGatePass taken => simp [loudGatePass_frame taken]
  | _ => simp

theorem storeConserved_keptByMoves : KeptByMoves StoreConserved where
  powerOn l q := rfl
  keep {s t} move conserved := by
    unfold StoreConserved at conserved ⊢
    cases move with
    | outer h =>
      obtain ⟨_, _, _, store⟩ := h.inner_eq
      rw [store, conserved]
    | store h =>
      rw [← conserved]
      cases h with
      | take taken =>
        unfold figureUnitTake at taken
        split at taken <;> cases taken
        next idle queue => simp [Store.total, idle, queue]; omega
      | free computing =>
        obtain ⟨c, hc⟩ := Option.isSome_iff_exists.mp computing
        simp [freeComputed, Store.total, hc]; omega
      | release b d k => exact Store.release_total _ b d k
      | declare b a k id => simp [Store.total]
      | frame =>
        simp only [Store.frame, Store.total, State.setStore_store]
        cases s.store.computing <;> rfl
    | nest h => rw [h.total_eq, conserved]
    | resetPart => rfl

/-- An insertion in order of last frame keeps the order (R78). -/
theorem insertHold_ascending {w : WindowRecord} : ∀ {l : List WindowRecord}, l.Pairwise (fun v w => v.lastFrame ≤ w.lastFrame) →
    (insertHold w l).Pairwise fun v w => v.lastFrame ≤ w.lastFrame
  | [], _ => by simp [insertHold]
  | v :: l, h => by
    obtain ⟨first, rest⟩ := List.pairwise_cons.mp h
    unfold insertHold
    split
    · next before =>
      refine List.pairwise_cons.mpr ⟨fun u hu => ?_, insertHold_ascending rest⟩
      rcases mem_insertHold.mp hu with rfl | hu
      · exact before
      · exact first u hu
    · next after =>
      refine List.pairwise_cons.mpr ⟨fun u hu => ?_, h⟩
      rcases List.mem_cons.mp hu with rfl | hu
      · omega
      · have := first u hu; omega

/-- A move of a nest leaves Guard Hold as it is, takes records out of it, or inserts one in its order. -/
theorem NestMove.guardHold_cases (h : NestMove s t) :
    t.store.guardHold.Sublist s.store.guardHold ∨ ∃ w, t.store.guardHold = insertHold w s.store.guardHold := by
  have closed (n : NestId) : (closeWindow n s).store.guardHold.Sublist s.store.guardHold ∨
      ∃ w, (closeWindow n s).store.guardHold = insertHold w s.store.guardHold := by
    rcases closeWindow_store (s := s) n with ⟨r, st, _, _, taken⟩ | left
    · exact .inr ⟨_, by rw [taken]; rfl⟩
    · exact .inl (by rw [left])
  cases h with
  | abort n reason _ =>
    left
    rcases abortUnit_store (s := s) n reason with same | dropped
    · rw [same]
    · rw [dropped]; exact List.filter_sublist
  | lastWindowFrame n taken =>
    unfold Machine.lastWindowFrame at taken
    (repeat' split at taken) <;> cases taken
    · exact closed n
    · exact .inl (.refl _)
  | windowClose taken =>
    unfold Machine.windowClose at taken
    (repeat' split at taken) <;> cases taken
    exact closed _
  | retry n taken => simp [retryStart_frame n taken]
  | settleEnd n taken => simp [settleEnd_frame n taken]
  | pairGrant taken => simp [pairGrant_frame taken]
  | windowOpen n taken => simp [windowOpen_frame n taken]
  | windowlessStepEnd n taken => simp [windowlessStepEnd_frame n taken]
  | quietGrant taken => simp [quietGrant_frame taken]
  | loudGatePass taken => simp [loudGatePass_frame taken]
  | _ => simp

/-- The taint of a record leaves its last frame (R91). -/
@[simp] theorem WindowRecord.declare_lastFrame (b a k : Nat) (id : StreamId) (w : WindowRecord) : (w.declare b a k id).lastFrame = w.lastFrame := by
  unfold WindowRecord.declare
  split <;> rfl

theorem holdAscending_keptByMoves : KeptByMoves HoldAscending where
  powerOn l q := .nil
  keep move ascending := by
    unfold HoldAscending at ascending ⊢
    cases move with
    | outer h =>
      obtain ⟨_, _, _, store⟩ := h.inner_eq
      rw [store]; exact ascending
    | store h =>
      cases h with
      | take taken =>
        unfold figureUnitTake at taken
        split at taken <;> cases taken
        exact ascending
      | free computing => exact ascending
      | release b d k => exact ascending.sublist (List.dropWhile_sublist _)
      | declare b a k id => exact List.pairwise_map.mpr (by simpa using ascending)
      | frame => exact ascending
    | nest h =>
      rcases h.guardHold_cases with fewer | ⟨w, inserted⟩
      · exact ascending.sublist fewer
      · rw [inserted]; exact insertHold_ascending ascending
    | resetPart => exact .nil

/-- Settles O7: a close takes a free record into Guard Hold, a release, a taking and a completion move one on, and an abort frees the records it
takes out; Guard Hold changes by removals and by insertions in its order. -/
theorem stepKeepsWindowStore : Obligations.StepKeepsWindowStore :=
  ⟨fun _ _ conserved h => storeConserved_keptByMoves.kept.step_keeps conserved h,
    fun _ _ ascending h => holdAscending_keptByMoves.kept.step_keeps ascending h⟩

end Sys2Proof.Machine
end

section
/-! PROOFS. What the end of a step can do, said once, and with it the invariants of the Quiet Arbiter (R49, R51) and of the Unit Records (R5). -/

namespace Sys2Proof.Machine

open Sys2Proof

variable {s t : State}

/-! ## The ends of a step, case by case (R31, R73) -/

/-- The update of a Unit Record by itself changes nothing. -/
@[simp] theorem State.modRecord_id (n : NestId) : s.modRecord n id = s := by
  have same : s.nests.set n (s.nest n) = s.nests := Vector.set_getElem_self _
  simp only [State.modRecord, State.modNest_def, Option.map_id, id]
  rw [same, State.setNests_self]

/-- Two updates of one Unit Record are one update. -/
theorem State.modRecord_modRecord (n : NestId) (f g : UnitRecord → UnitRecord) :
    (s.modRecord n f).modRecord n g = s.modRecord n fun r => g (f r) := by
  simp only [State.modRecord, State.modNest_modNest, Option.map_map]
  rfl

/-- A start of a step at a plan position, after an update of the Unit Record. -/
theorem startAt_modRecord (n : NestId) (r : UnitRecord) (e j : Nat) (muted : Bool) (f : UnitRecord → UnitRecord) :
    ∃ st g, startAt n r e j muted (s.modRecord n f) = startStep n st (s.modRecord n g) :=
  ⟨makeStep s.tables (entrySegment (planAt s.tables r.plan) e) j false muted, fun x => { f x with position := .at_ e j }, by
    rw [startAt, State.modRecord_modRecord]; rfl⟩

/-- The walk's advance is no move, or a nest with a Unit Record enters FINISHING or starts a step (R31). -/
theorem advance_cases (n : NestId) (muted : Bool) (s : State) : advance n muted s = s ∨ ((s.nest n).record.isSome = true ∧ ∃ f,
    advance n muted s = enterFinishing n (s.modRecord n f) ∨ ∃ st, advance n muted s = startStep n st (s.modRecord n f)) := by
  unfold advance
  split
  · exact .inl rfl
  · next r record =>
    have some : (s.nest n).record.isSome = true := by simp [record]
    split
    · exact .inl rfl
    · exact .inr ⟨some, id, .inl (by rw [State.modRecord_id])⟩
    · dsimp only
      split
      · exact .inr ⟨some, _, .inr ⟨_, rfl⟩⟩
      · split
        · obtain ⟨st, g, started⟩ := startAt_modRecord (s := s) n r _ _ muted _
          exact .inr ⟨some, g, .inr ⟨st, started⟩⟩
        · exact .inr ⟨some, _, .inl rfl⟩

/-- A retry start is the start of a step of a nest in FINISHING with a Unit Record, now in TESTING (R127). -/
theorem retryStart_some_cases {n : NestId} (h : retryStart n s = some t) :
    (s.nest n).state = .finishing ∧ (s.nest n).record.isSome = true ∧
      ∃ st f, t = startStep n st ((s.modNest n fun x => { x with state := .testing }).modRecord n f) := by
  obtain ⟨r, _, _, finishing, record, _⟩ := retryStart_cases h
  unfold retryStart at h
  (repeat' split at h) <;> cases h
  exact ⟨finishing, by simp [record], _, _, rfl⟩

/-- The withdrawal of a step is no move, or the end of the step, which a retry start may follow (R60). -/
theorem withdrawStep_cases (s : State) (n : NestId) : withdrawStep s n = s ∨ ∃ f, withdrawStep s n = endStep n true (s.modRecord n f) ∨
    retryStart n (endStep n true (s.modRecord n f)) = some (withdrawStep s n) := by
  unfold withdrawStep
  split
  · exact .inl rfl
  · next st _ =>
    refine .inr ⟨fun r => r.enterRun st.retry st.segment st.step [invalidFinding st.segment st.step st.code .quietUnavailable], ?_⟩
    exact (attempt_cases (retryStart n) _).imp (fun stays => stays.2) id

/-- A window close only takes the nest out of the close-wait list, or ends the step of a nest with a Unit Record (R73). -/
theorem closeWindow_cases (n : NestId) (s : State) :
    closeWindow n s = s.setStore { s.store with closeWait := s.store.closeWait.filter fun m => !(m == n) } ∨
      ∃ w f, closeWindow n s = endStep n false ((unwatch n (s.setStore (s.store.takeRecord n w))).modRecord n f) := by
  unfold closeWindow
  split
  · exact .inr ⟨_, _, rfl⟩
  · exact .inl rfl

/-! ## The events of a step, case by case -/

/-- A nest in CLOSE_WAIT at the tail of the close-wait list (R76). -/
def joinCloseWait (n : NestId) (s : State) : State :=
  (s.modNest n fun x => { x with phase := some .closeWait }).setStore { s.store with closeWait := s.store.closeWait ++ [n] }

/-- LAST_WINDOW_FRAME ends a MEASURE: with the close of the window, or with a place in the close-wait list (R73, R76). -/
theorem lastWindowFrame_cases {n : NestId} (h : lastWindowFrame n s = some t) :
    ((s.nest n).phase = some .measure ∧ 0 < s.store.free ∧ t = closeWindow n s) ∨
      ((s.nest n).phase = some .measure ∧ t = joinCloseWait n s) := by
  unfold lastWindowFrame at h
  split at h
  · next measure _ =>
    (repeat' split at h) <;> cases h
    · next free => exact .inl ⟨measure, by simpa using (Bool.and_eq_true_iff.mp free).1, rfl⟩
    · exact .inr ⟨measure, rfl⟩
  · cases h

/-- WINDOW_CLOSE closes the window of the head of the close-wait list into a free record (R76). -/
theorem windowClose_cases (h : windowClose s = some t) : ∃ n rest, s.store.closeWait = n :: rest ∧ 0 < s.store.free ∧ t = closeWindow n s := by
  unfold windowClose at h
  split at h
  · cases h
  · next n rest waits =>
    split at h <;> cases h
    next free => exact ⟨n, rest, waits, free, rfl⟩

/-- WINDOWLESS_STEP_END ends a step in MEASURE (R44). -/
theorem windowlessStepEnd_cases {n : NestId} (h : windowlessStepEnd n s = some t) :
    (s.nest n).phase = some .measure ∧ t = endStep n false s := by
  unfold windowlessStepEnd at h
  split at h
  · next measure _ =>
    split at h <;> cases h
    exact ⟨measure, rfl⟩
  · cases h

/-- SETTLE_END takes a nest from SETTLE to MEASURE, or to ALLOC_WAIT with its request (R39, R66). -/
theorem settleEnd_cases {n : NestId} (h : settleEnd n s = some t) : ∃ st, (s.nest n).phase = some .settle ∧ (s.nest n).step = some st ∧
    (t = s.modNest n (fun x => { x with phase := some .measure, count := 0 }) ∨
      t = joinAllocation n st.pairs.length (s.modNest n fun x => { x with phase := some .allocWait })) := by
  unfold settleEnd at h
  split at h
  · next st settles step =>
    (repeat' split at h) <;> cases h
    · exact ⟨st, settles, step, .inl rfl⟩
    · exact ⟨st, settles, step, .inr rfl⟩
  · cases h

/-- WINDOW_OPEN takes a nest from OPEN_WAIT to MEASURE, with a watch entry (R41). -/
theorem windowOpen_cases {n : NestId} (h : windowOpen n s = some t) : ∃ st, (s.nest n).phase = some .openWait ∧ (s.nest n).step = some st ∧
    t = watch n st.cls (s.modNest n fun x => { x with phase := some .measure, count := 0 }) := by
  unfold windowOpen at h
  split at h
  · next st waits step =>
    split at h <;> cases h
    exact ⟨st, waits, step, rfl⟩
  · cases h

/-- The state after a pair grant, before the watch entry of a window that opens at once (R67). -/
def grantPairs (n : NestId) (k : Nat) (rest : List (NestId × Nat)) (st : Step) (s : State) : State :=
  (s.setBank { free := s.bank.free - k, queue := rest }).modNest n (·.toWindow st)

/-- PAIR_GRANT takes the head of the Allocation Queue out of it, and gives a nest with a step its pairs (R67). -/
theorem pairGrant_cases (h : pairGrant s = some t) : ∃ n k rest, s.bank.queue = (n, k) :: rest ∧ k ≤ s.bank.free ∧
    (((s.nest n).step = none ∧ t = s.setBank { s.bank with queue := rest }) ∨ ∃ st, (s.nest n).step = some st ∧
      (t = grantPairs n k rest st s ∨ t = watch n st.cls (grantPairs n k rest st s))) := by
  unfold pairGrant at h
  split at h
  · cases h
  · next n k rest queue =>
    split at h
    · next enough =>
      refine ⟨n, k, rest, queue, enough, ?_⟩
      split at h
      · next none_ => cases h; exact .inl ⟨none_, rfl⟩
      · next st step =>
        refine .inr ⟨st, step, ?_⟩
        dsimp only at h
        split at h <;> cases h
        · exact .inl rfl
        · exact .inr rfl
    · cases h

/-- QUIET_GRANT makes the head of the Quiet Request Queue the holder, in SETTLE, while there is none and the loud-past set is empty (R49). -/
theorem quietGrant_cases (h : quietGrant s = some t) : ∃ n rest, s.arbiter.queue = n :: rest ∧ s.arbiter.holder = none ∧
    (∀ m : NestId, s.arbiter.loudPast[m] = false) ∧
    t = enterSettle n (s.setArbiter { s.arbiter with queue := rest, holder := some n }) := by
  unfold quietGrant at h
  split at h
  · cases h
  · next n rest queue =>
    split at h <;> cases h
    next granted =>
    simp only [Bool.and_eq_true, Option.isNone_iff_eq_none] at granted
    obtain ⟨⟨free, _⟩, empty⟩ := granted
    refine ⟨n, rest, queue, free, fun m => ?_, rfl⟩
    simpa using List.all_eq_true.mp empty m (by fin_cases m <;> simp [nestIds])

/-- The gate is open only while no nest holds quiet (R51). -/
theorem holder_of_gateOpen (h : gateOpen s = true) : s.arbiter.holder = none := by
  simp only [gateOpen, Bool.not_eq_true', Bool.or_eq_false_iff] at h
  simpa using h.1

/-- LOUD_GATE_PASS finds no quiet holder, and passes the nests in ascending order (R51). -/
theorem loudGatePass_cases (h : loudGatePass s = some t) : s.arbiter.holder = none ∧ t = nestIds.foldl passIfWaiting s := by
  unfold loudGatePass at h
  split at h <;> cases h
  next passes => exact ⟨holder_of_gateOpen (Bool.and_eq_true_iff.mp passes).1, rfl⟩

/-! ## What the events of a step leave of a nest's lifecycle -/

@[simp] theorem watch_nest (n m : NestId) (c : StepClass) : (watch n c s).nest m = s.nest m := rfl

@[simp] theorem joinAllocation_nest (n m : NestId) (k : Nat) : (joinAllocation n k s).nest m = s.nest m := rfl

@[simp] theorem joinCloseWait_nest (n m : NestId) :
    (joinCloseWait n s).nest m = (s.modNest n fun x => { x with phase := some .closeWait }).nest m := rfl

theorem joinCloseWait_sameLife (n m : NestId) : SameLife (s.nest m) ((joinCloseWait n s).nest m) := by
  rw [joinCloseWait_nest]
  exact modNest_sameLife n m fun _ => ⟨rfl, rfl, rfl, rfl, rfl, rfl⟩

theorem settleEnd_sameLife {n : NestId} (h : settleEnd n s = some t) (m : NestId) : SameLife (s.nest m) (t.nest m) := by
  obtain ⟨_, _, _, rfl | rfl⟩ := settleEnd_cases h
  · exact modNest_sameLife n m fun _ => ⟨rfl, rfl, rfl, rfl, rfl, rfl⟩
  · rw [joinAllocation_nest]
    exact modNest_sameLife n m fun _ => ⟨rfl, rfl, rfl, rfl, rfl, rfl⟩

theorem windowOpen_sameLife {n : NestId} (h : windowOpen n s = some t) (m : NestId) : SameLife (s.nest m) (t.nest m) := by
  obtain ⟨_, _, _, rfl⟩ := windowOpen_cases h
  rw [watch_nest]
  exact modNest_sameLife n m fun _ => ⟨rfl, rfl, rfl, rfl, rfl, rfl⟩

theorem pairGrant_sameLife (h : pairGrant s = some t) (m : NestId) : SameLife (s.nest m) (t.nest m) := by
  obtain ⟨n, k, rest, _, _, ⟨_, rfl⟩ | ⟨st, _, rfl | rfl⟩⟩ := pairGrant_cases h
  · exact SameLife.refl _
  · exact modNest_sameLife (s := s.setBank _) n m fun _ => ⟨rfl, rfl, rfl, rfl, rfl, rfl⟩
  · rw [watch_nest]
    exact modNest_sameLife (s := s.setBank _) n m fun _ => ⟨rfl, rfl, rfl, rfl, rfl, rfl⟩

theorem quietGrant_sameLife (h : quietGrant s = some t) (m : NestId) : SameLife (s.nest m) (t.nest m) := by
  obtain ⟨n, rest, _, _, _, rfl⟩ := quietGrant_cases h
  exact enterSettle_sameLife (s := s.setArbiter _) n m

theorem passIfWaiting_sameLife (n m : NestId) : SameLife (s.nest m) ((passIfWaiting s n).nest m) := by
  unfold passIfWaiting
  split
  · exact enterSettle_sameLife (s := passLoud n s) n m
  · exact SameLife.refl _

theorem loudGatePass_sameLife (h : loudGatePass s = some t) (m : NestId) : SameLife (s.nest m) (t.nest m) := by
  obtain ⟨_, rfl⟩ := loudGatePass_cases h
  exact List.foldlRecOn (motive := fun u => SameLife (s.nest m) (u.nest m)) nestIds passIfWaiting (SameLife.refl _)
    fun _ hu n _ => hu.trans (passIfWaiting_sameLife n m)

/-! ## Quiet and the loud-past set (R49, R51) -/

/-- An arbiter whose holder and loud-past set are among those of a quiet one is quiet. -/
theorem QuietAlone.of_fewer (h : QuietAlone s) (holder : t.arbiter.holder.isSome = true → s.arbiter.holder.isSome = true)
    (past : ∀ n : NestId, t.arbiter.loudPast[n] = true → s.arbiter.loudPast[n] = true) : QuietAlone t := fun held n =>
  Bool.eq_false_iff.mpr fun loud => Bool.eq_false_iff.mp (h (holder held) n) (past n loud)

theorem QuietAlone.of_eq (h : QuietAlone s) (arbiter : t.arbiter = s.arbiter) : QuietAlone t :=
  h.of_fewer (arbiter ▸ id) (arbiter ▸ fun _ => id)

/-- Past the open gate a loud step finds no quiet holder. -/
theorem quietAlone_of_holder (h : s.arbiter.holder = none) : QuietAlone s := fun held => by simp [h] at held

theorem startStep_quietAlone (n : NestId) (st : Step) (h : QuietAlone s) : QuietAlone (startStep n st s) := by
  unfold startStep meetGate
  split
  · exact h.of_eq (by simp)
  · exact h.of_fewer (by simp [joinQuiet]) (by simp [joinQuiet])
  · split
    · next open_ => exact quietAlone_of_holder (by simpa [passLoud] using holder_of_gateOpen open_)
    · exact h.of_fewer (by simp [waitLoud]) (by simp [waitLoud])

theorem releaseQuiet_quietAlone (n : NestId) (h : QuietAlone s) : QuietAlone (releaseQuiet n s) := by
  refine h.of_fewer (fun held => ?_) fun m past => ?_
  · simp only [releaseQuiet, Arbiter.release, State.setArbiter_arbiter] at held
    split at held
    · cases held
    · exact held
  · simp only [releaseQuiet, Arbiter.release, State.setArbiter_arbiter, Fin.getElem_fin, Vector.getElem_set] at past
    split at past
    · cases past
    · exact past

theorem endStep_quietAlone (n : NestId) (muted : Bool) (h : QuietAlone s) : QuietAlone (endStep n muted s) := by
  have released : QuietAlone (releaseQuiet n (returnPairs n s)) := releaseQuiet_quietAlone n (h.of_eq (by simp))
  unfold endStep
  rcases advance_cases n muted (releaseQuiet n (returnPairs n s)) with same | ⟨_, f, finished | ⟨st, started⟩⟩
  · rw [same]; exact released
  · rw [finished]; exact released.of_eq (by simp)
  · rw [started]; exact startStep_quietAlone _ _ (released.of_eq (by simp))

theorem closeWindow_quietAlone (n : NestId) (h : QuietAlone s) : QuietAlone (closeWindow n s) := by
  rcases closeWindow_cases n s with left | ⟨w, f, ended⟩
  · rw [left]; exact h
  · rw [ended]; exact endStep_quietAlone _ _ (h.of_eq (by simp))

theorem retryStart_quietAlone {n : NestId} (taken : retryStart n s = some t) (h : QuietAlone s) : QuietAlone t := by
  obtain ⟨_, _, st, f, rfl⟩ := retryStart_some_cases taken
  exact startStep_quietAlone _ _ (h.of_eq (by simp))

theorem withdrawStep_quietAlone (n : NestId) (h : QuietAlone s) : QuietAlone (withdrawStep s n) := by
  rcases withdrawStep_cases s n with same | ⟨f, ended | retried⟩
  · rw [same]; exact h
  · rw [ended]; exact endStep_quietAlone _ _ (h.of_eq (by simp))
  · exact retryStart_quietAlone retried (endStep_quietAlone _ _ (h.of_eq (by simp)))

theorem passIfWaiting_holder (n : NestId) (h : s.arbiter.holder = none) : (passIfWaiting s n).arbiter.holder = none := by
  unfold passIfWaiting
  split <;> simpa [passLoud] using h

theorem NestMove.quietAlone (move : NestMove s t) (h : QuietAlone s) : QuietAlone t := by
  cases move with
  | alike x _ => exact h
  | load n _ => exact h.of_eq (by simp)
  | empty n _ => exact h.of_eq (by simp)
  | grade n _ => exact h.of_eq (by simp)
  | dispose n _ _ => exact h.of_eq (by simp)
  | start n r _ => exact startStep_quietAlone _ _ (h.of_eq (by simp))
  | abort n reason underTest =>
    have released := releaseQuiet_quietAlone n h
    exact released.of_eq (by simp [abortUnit, underTest, releaseClaims, joinDisposing, releaseQuiet])
  | retry n taken => exact retryStart_quietAlone taken h
  | settleEnd n taken => exact h.of_eq (by simp [settleEnd_frame n taken])
  | pairGrant taken => exact h.of_eq (by simp [pairGrant_frame taken])
  | windowOpen n taken => exact h.of_eq (by simp [windowOpen_frame n taken])
  | lastWindowFrame n taken =>
    rcases lastWindowFrame_cases taken with ⟨_, _, rfl⟩ | ⟨_, rfl⟩
    · exact closeWindow_quietAlone n h
    · exact h.of_eq rfl
  | windowClose taken =>
    obtain ⟨n, _, _, _, rfl⟩ := windowClose_cases taken
    exact closeWindow_quietAlone n h
  | windowlessStepEnd n taken =>
    obtain ⟨_, rfl⟩ := windowlessStepEnd_cases taken
    exact endStep_quietAlone _ _ h
  | quietGrant taken =>
    obtain ⟨n, rest, _, _, empty, rfl⟩ := quietGrant_cases taken
    exact fun _ => empty
  | loudGatePass taken =>
    obtain ⟨free, rfl⟩ := loudGatePass_cases taken
    refine quietAlone_of_holder ?_
    exact List.foldlRecOn (motive := fun (u : State) => u.arbiter.holder = none) nestIds passIfWaiting free
      fun _ hu n _ => passIfWaiting_holder n hu
  | withdraw =>
    exact List.foldlRecOn (motive := QuietAlone) _ _ (h.of_fewer (by simp) (by simp)) fun _ hu n _ => withdrawStep_quietAlone n hu

theorem quietAlone_keptByMoves : KeptByMoves QuietAlone where
  powerOn l q := quietAlone_of_holder rfl
  keep move h := by
    cases move with
    | outer move => exact h.of_eq move.inner_eq.2.1
    | store move => exact h.of_eq move.rest_eq.2.1
    | nest move => exact move.quietAlone h
    | resetPart => exact quietAlone_of_holder rfl

/-- Settles O14: a nest becomes the quiet holder only while the loud-past set is empty, and joins that set only past the open gate. -/
theorem stepKeepsQuiet : Obligations.StepKeepsQuiet := fun _ _ alone h => quietAlone_keptByMoves.kept.step_keeps alone h

/-! ## The Unit Records (R5) -/

/-- A nest holds a Unit Record exactly in the states in which it holds a unit (R5). -/
abbrev HoldsRecord (x : Nest) : Prop := x.record.isSome = x.state.holdsUnit

/-- An update of a nest with its Unit Record in its place keeps every nest so. -/
theorem RecordsHeld.modNest (h : RecordsHeld s) (n : NestId) {f : Nest → Nest} (here : HoldsRecord (f (s.nest n))) :
    RecordsHeld (s.modNest n f) := fun m => by
  rw [State.modNest_nest]
  split
  · next same => exact same ▸ here
  · exact h m

theorem RecordsHeld.of_life (h : RecordsHeld s) (life : ∀ m, SameLife (s.nest m) (t.nest m)) : RecordsHeld t := fun m => by
  obtain ⟨state, record, _⟩ := life m
  rw [record, state]
  exact h m

theorem RecordsHeld.of_nests (h : RecordsHeld s) (nests : t.nests = s.nests) : RecordsHeld t := h.of_life fun m => by
  rw [State.nest, State.nest, nests]; exact SameLife.refl _

theorem endStep_recordsHeld (n : NestId) (muted : Bool) (h : RecordsHeld s) : RecordsHeld (endStep n muted s) := fun m => by
  rcases endStep_life (s := s) n m muted with life | ⟨rfl, record, life⟩
  · rw [life.2.1, life.1]; exact h m
  · rw [life.2.1, life.1]; exact record

theorem closeWindow_recordsHeld (n : NestId) (h : RecordsHeld s) : RecordsHeld (closeWindow n s) := by
  rcases closeWindow_cases n s with left | ⟨w, f, ended⟩
  · rw [left]; exact h
  · rw [ended]
    exact endStep_recordsHeld _ _ ((h.of_nests (t := unwatch n (s.setStore (s.store.takeRecord n w))) (by simp)).of_life
      fun m => modRecord_sameLife n m)

theorem retryStart_recordsHeld {n : NestId} (taken : retryStart n s = some t) (h : RecordsHeld s) : RecordsHeld t := by
  obtain ⟨_, record, st, f, rfl⟩ := retryStart_some_cases taken
  exact ((h.modNest n record).of_life fun m => modRecord_sameLife n m).of_life fun m => startStep_sameLife n m st

theorem withdrawStep_recordsHeld (n : NestId) (h : RecordsHeld s) : RecordsHeld (withdrawStep s n) := by
  have modified (f : UnitRecord → UnitRecord) : RecordsHeld (s.modRecord n f) := h.of_life fun m => modRecord_sameLife n m
  rcases withdrawStep_cases s n with same | ⟨f, ended | retried⟩
  · rw [same]; exact h
  · rw [ended]; exact endStep_recordsHeld _ _ (modified f)
  · exact retryStart_recordsHeld retried (endStep_recordsHeld _ _ (modified f))

theorem abortUnit_recordsHeld (n : NestId) (reason : AbortReason) (underTest : (s.nest n).state.underTest = true) (h : RecordsHeld s) :
    RecordsHeld (abortUnit n reason s) := by
  have record : (s.nest n).record.isSome = true := by
    rw [h n]; revert underTest; cases (s.nest n).state <;> simp [NestState.underTest, NestState.holdsUnit]
  intro m
  rw [abortReleasesEveryClaim n reason s (underTest_iff.mp underTest)]
  change (State.nest (s.setNest n _) m).record.isSome = (State.nest (s.setNest n _) m).state.holdsUnit
  rw [State.setNest_nest]
  split
  · simpa [NestState.holdsUnit] using record
  · exact h m

theorem NestMove.recordsHeld (move : NestMove s t) (h : RecordsHeld s) : RecordsHeld t := by
  cases move with
  | alike x same =>
    intro m
    obtain ⟨state, _, _, record, _⟩ := same m
    change (x[m]).record.isSome = (x[m]).state.holdsUnit
    rw [record, state]
    exact h m
  | load n empty => exact h.modNest n ((h n).trans (by rw [empty]; rfl))
  | start n r _ => exact (h.modNest n (f := (·.begin r)) rfl).of_life fun m => startAt_sameLife n m r 0 0 true
  | empty n _ => exact h.modNest n rfl
  | grade n finishing => exact h.modNest n ((h n).trans (by rw [finishing]; rfl))
  | dispose n pass disposing => exact h.modNest n ((h n).trans (by rw [disposing]; rfl))
  | abort n reason underTest => exact abortUnit_recordsHeld n reason underTest h
  | retry n taken => exact retryStart_recordsHeld taken h
  | settleEnd n taken => exact h.of_life (settleEnd_sameLife taken)
  | pairGrant taken => exact h.of_life (pairGrant_sameLife taken)
  | windowOpen n taken => exact h.of_life (windowOpen_sameLife taken)
  | lastWindowFrame n taken =>
    rcases lastWindowFrame_cases taken with ⟨_, _, rfl⟩ | ⟨_, rfl⟩
    · exact closeWindow_recordsHeld n h
    · exact h.of_life (joinCloseWait_sameLife n)
  | windowClose taken =>
    obtain ⟨n, _, _, _, rfl⟩ := windowClose_cases taken
    exact closeWindow_recordsHeld n h
  | windowlessStepEnd n taken =>
    obtain ⟨_, rfl⟩ := windowlessStepEnd_cases taken
    exact endStep_recordsHeld _ _ h
  | quietGrant taken => exact h.of_life (quietGrant_sameLife taken)
  | loudGatePass taken => exact h.of_life (loudGatePass_sameLife taken)
  | withdraw => exact List.foldlRecOn (motive := RecordsHeld) _ _ h fun _ hu n _ => withdrawStep_recordsHeld n hu

/-- Right after either reset no nest holds a Unit Record (R24). -/
theorem nestsAtReset_get (i : Inputs) (n : NestId) : ∃ loaded, (nestsAtReset i)[n] = Nest.atReset loaded := by
  fin_cases n <;> exact ⟨_, rfl⟩

theorem recordsHeld_of_reset {i : Inputs} (h : s.nests = nestsAtReset i) : RecordsHeld s := fun n => by
  obtain ⟨loaded, reset⟩ := nestsAtReset_get i n
  rw [State.nest, h, reset]
  cases loaded <;> rfl

theorem recordsHeld_keptByMoves : KeptByMoves RecordsHeld where
  powerOn l q := recordsHeld_of_reset rfl
  keep move h := by
    cases move with
    | outer move => exact h.of_nests move.inner_eq.1
    | store move => exact h.of_nests move.rest_eq.1
    | nest move => exact move.recordsHeld h
    | resetPart => exact recordsHeld_of_reset rfl

/-- Settles O8: a start and an entry into EMPTY set state and record together, and every other move of a nest keeps whether it holds one. -/
theorem stepKeepsUnitRecords : Obligations.StepKeepsUnitRecords := fun _ _ held h => recordsHeld_keptByMoves.kept.step_keeps held h

end Sys2Proof.Machine
end

section
/-! PROOFS. The places of the nests in the shared blocks (R47, R51, R65, R66, R76): the part of the invariant that speaks of one nest, the moves
that concern one nest alone, and the invariant of the whole part. -/

namespace Sys2Proof.Machine

open Sys2Proof

variable {s t u : State} {n m : NestId}

/-! ## One nest's places -/

/-- What `PlacesFollowPhase` says of one nest. -/
structure Placed (s : State) (n : NestId) : Prop where
  noPhase : (s.nest n).state ≠ .testing → (s.nest n).phase = none
  pairs : (s.nest n).pairs ≠ [] →
    (s.nest n).phase = some .openWait ∨ (s.nest n).phase = some .measure ∨ (s.nest n).phase = some .closeWait
  quiet : n ∈ s.arbiter.queue → (s.nest n).phase = some .gateWait ∧ ∃ st, (s.nest n).step = some st ∧ st.cls = .quiet
  loud : s.arbiter.loudWait[n] = true → (s.nest n).phase = some .gateWait ∧ ∃ st, (s.nest n).step = some st ∧ st.cls = .loud
  holder : s.arbiter.holder = some n →
    (s.nest n).phase.isSome = true ∧ (s.nest n).phase ≠ some .gateWait ∧ ∃ st, (s.nest n).step = some st ∧ st.cls = .quiet
  loudPast : s.arbiter.loudPast[n] = true →
    (s.nest n).phase.isSome = true ∧ (s.nest n).phase ≠ some .gateWait ∧ ∃ st, (s.nest n).step = some st ∧ st.cls = .loud
  alloc : ∀ k, (n, k) ∈ s.bank.queue → (s.nest n).phase = some .allocWait ∧ ∃ st, (s.nest n).step = some st ∧ st.pairs.length = k
  close : n ∈ s.store.closeWait → (s.nest n).phase = some .closeWait

/-- No nest stands twice in a queue or in the close-wait list. -/
structure PlacesOnce (s : State) : Prop where
  quiet : s.arbiter.queue.Nodup
  alloc : (s.bank.queue.map (·.1)).Nodup
  close : s.store.closeWait.Nodup

theorem PlacesFollowPhase.placed (h : PlacesFollowPhase s) (n : NestId) : Placed s n :=
  ⟨h.noPhase n, h.pairs n, h.quiet n, h.loud n, h.holder n, h.loudPast n, fun k mem => h.alloc (n, k) mem, h.close n⟩

theorem PlacesFollowPhase.once (h : PlacesFollowPhase s) : PlacesOnce s := ⟨h.quietOnce, h.allocOnce, h.closeOnce⟩

theorem placesFollowPhase_of_placed (h : ∀ n, Placed s n) (once : PlacesOnce s) : PlacesFollowPhase s :=
  ⟨fun n => (h n).noPhase, fun n => (h n).pairs, fun n => (h n).quiet, fun n => (h n).loud, fun n => (h n).holder,
    fun n => (h n).loudPast, fun e => (h e.1).alloc e.2, fun n => (h n).close, once.quiet, once.alloc, once.close⟩

/-- The places of a nest in the later state are among those in the earlier one. -/
structure ClaimsWithin (s t : State) (n : NestId) : Prop where
  queue : n ∈ t.arbiter.queue → n ∈ s.arbiter.queue
  loudWait : t.arbiter.loudWait[n] = true → s.arbiter.loudWait[n] = true
  holder : t.arbiter.holder = some n → s.arbiter.holder = some n
  loudPast : t.arbiter.loudPast[n] = true → s.arbiter.loudPast[n] = true
  alloc : ∀ k, (n, k) ∈ t.bank.queue → (n, k) ∈ s.bank.queue
  close : n ∈ t.store.closeWait → n ∈ s.store.closeWait

theorem ClaimsWithin.of_eq (arbiter : t.arbiter = s.arbiter) (bank : t.bank.queue = s.bank.queue)
    (close : t.store.closeWait = s.store.closeWait) : ClaimsWithin s t n := by
  constructor <;> simp [arbiter, bank, close]

theorem ClaimsWithin.trans (a : ClaimsWithin s t n) (b : ClaimsWithin t u n) : ClaimsWithin s u n :=
  ⟨fun h => a.queue (b.queue h), fun h => a.loudWait (b.loudWait h), fun h => a.holder (b.holder h), fun h => a.loudPast (b.loudPast h),
    fun k h => a.alloc k (b.alloc k h), fun h => a.close (b.close h)⟩

/-- A nest with fewer places, and alike itself, keeps its places in line. -/
theorem Placed.of_within (h : Placed s n) (w : ClaimsWithin s t n) (state : (t.nest n).state = (s.nest n).state)
    (phase : (t.nest n).phase = (s.nest n).phase) (step : (t.nest n).step = (s.nest n).step)
    (pairs : (t.nest n).pairs ≠ [] → (s.nest n).pairs ≠ []) : Placed t n where
  noPhase := by rw [state, phase]; exact h.noPhase
  pairs some := by rw [phase]; exact h.pairs (pairs some)
  quiet mem := by rw [phase, step]; exact h.quiet (w.queue mem)
  loud mem := by rw [phase, step]; exact h.loud (w.loudWait mem)
  holder mem := by rw [phase, step]; exact h.holder (w.holder mem)
  loudPast mem := by rw [phase, step]; exact h.loudPast (w.loudPast mem)
  alloc k mem := by rw [phase, step]; exact h.alloc k (w.alloc k mem)
  close mem := by rw [phase]; exact h.close (w.close mem)

/-- A nest that stands in no shared place and holds no pair. -/
structure Unclaimed (s : State) (n : NestId) : Prop where
  queue : n ∉ s.arbiter.queue
  loudWait : s.arbiter.loudWait[n] = false
  holder : s.arbiter.holder ≠ some n
  loudPast : s.arbiter.loudPast[n] = false
  alloc : ∀ k, (n, k) ∉ s.bank.queue
  close : n ∉ s.store.closeWait
  pairs : (s.nest n).pairs = []

theorem Unclaimed.of_within (h : Unclaimed s n) (w : ClaimsWithin s t n) (pairs : (t.nest n).pairs = (s.nest n).pairs) : Unclaimed t n where
  queue mem := h.queue (w.queue mem)
  loudWait := Bool.eq_false_iff.mpr fun mem => by simpa [h.loudWait] using w.loudWait mem
  holder mem := h.holder (w.holder mem)
  loudPast := Bool.eq_false_iff.mpr fun mem => by simpa [h.loudPast] using w.loudPast mem
  alloc k mem := h.alloc k (w.alloc k mem)
  close mem := h.close (w.close mem)
  pairs := pairs.trans h.pairs

/-- A nest without a place is in line with its phase once it has no phase outside TESTING. -/
theorem Unclaimed.placed (h : Unclaimed s n) (noPhase : (s.nest n).state ≠ .testing → (s.nest n).phase = none) : Placed s n where
  noPhase := noPhase
  pairs some := absurd h.pairs some
  quiet mem := absurd mem h.queue
  loud mem := by simp [h.loudWait] at mem
  holder mem := absurd mem h.holder
  loudPast mem := by simp [h.loudPast] at mem
  alloc k mem := absurd mem (h.alloc k)
  close mem := absurd mem h.close

/-- A nest without a phase has no place. -/
theorem Placed.unclaimed (h : Placed s n) (idle : (s.nest n).phase = none) : Unclaimed s n where
  queue mem := by simpa [idle] using (h.quiet mem).1
  loudWait := Bool.eq_false_iff.mpr fun mem => by simpa [idle] using (h.loud mem).1
  holder mem := by simpa [idle] using (h.holder mem).1
  loudPast := Bool.eq_false_iff.mpr fun mem => by simpa [idle] using (h.loudPast mem).1
  alloc k mem := by simpa [idle] using (h.alloc k mem).1
  close mem := by simpa [idle] using h.close mem
  pairs := by_contra fun some => by simpa [idle] using h.pairs some

/-- A nest with a phase is in TESTING. -/
theorem Placed.testing (h : Placed s n) {p : StepPhase} (phase : (s.nest n).phase = some p) : (s.nest n).state = .testing :=
  by_contra fun other => by simp [h.noPhase other] at phase

/-! ## Moves that concern one nest -/

/-- Only nest `n` changes, and no other nest comes to a place. -/
structure OnlyMoves (n : NestId) (s t : State) : Prop where
  nest : ∀ m, m ≠ n → t.nest m = s.nest m
  claims : ∀ m, m ≠ n → ClaimsWithin s t m

theorem OnlyMoves.trans (a : OnlyMoves n s t) (b : OnlyMoves n t u) : OnlyMoves n s u :=
  ⟨fun m hm => (b.nest m hm).trans (a.nest m hm), fun m hm => (a.claims m hm).trans (b.claims m hm)⟩

/-- After a move of one nest the places are in line once those of this nest are. -/
theorem OnlyMoves.places (move : OnlyMoves n s t) (h : PlacesFollowPhase s) (here : Placed t n) (once : PlacesOnce t) :
    PlacesFollowPhase t := by
  refine placesFollowPhase_of_placed (fun m => ?_) once
  by_cases same : m = n
  · exact same ▸ here
  · have nest := move.nest m same
    exact (h.placed m).of_within (move.claims m same) (by rw [nest]) (by rw [nest]) (by rw [nest]) (by rw [nest]; exact id)

theorem OnlyMoves.unclaimed (move : OnlyMoves n s t) (other : m ≠ n) (h : Unclaimed s m) : Unclaimed t m :=
  h.of_within (move.claims m other) (by rw [move.nest m other])

theorem modNest_onlyMoves (n : NestId) (f : Nest → Nest) : OnlyMoves n s (s.modNest n f) :=
  ⟨fun _ other => State.modNest_nest_ne s (Ne.symm other), fun _ _ => .of_eq rfl rfl rfl⟩

theorem modRecord_onlyMoves (n : NestId) (f : UnitRecord → UnitRecord) : OnlyMoves n s (s.modRecord n f) := modNest_onlyMoves n _

/-- Blocks outside the places concern no nest. -/
theorem OnlyMoves.of_eq (n : NestId) (nests : t.nests = s.nests) (arbiter : t.arbiter = s.arbiter) (bank : t.bank.queue = s.bank.queue)
    (close : t.store.closeWait = s.store.closeWait) : OnlyMoves n s t :=
  ⟨fun m _ => by rw [State.nest, State.nest, nests], fun _ _ => .of_eq arbiter bank close⟩

theorem joinQuiet_onlyMoves (n : NestId) : OnlyMoves n s (joinQuiet n s) where
  nest _ _ := rfl
  claims m other := ⟨fun mem => by simpa [joinQuiet, other] using mem, id, id, id, fun _ => id, id⟩

theorem waitLoud_onlyMoves (n : NestId) : OnlyMoves n s (waitLoud n s) where
  nest _ _ := rfl
  claims m other := ⟨id, fun mem => by simpa [waitLoud, Fin.val_ne_of_ne (Ne.symm other)] using mem, id, id, fun _ => id, id⟩

theorem passLoud_onlyMoves (n : NestId) : OnlyMoves n s (passLoud n s) where
  nest _ _ := rfl
  claims m other := ⟨id, fun mem => by simpa [passLoud, Fin.val_ne_of_ne (Ne.symm other)] using mem, id,
    fun mem => by simpa [passLoud, Fin.val_ne_of_ne (Ne.symm other)] using mem, fun _ => id, id⟩

theorem releaseQuiet_onlyMoves (n : NestId) : OnlyMoves n s (releaseQuiet n s) where
  nest _ _ := rfl
  claims m other := by
    refine ⟨fun mem => (List.mem_filter.mp mem).1, fun mem => ?_, fun mem => ?_, fun mem => ?_, fun _ => id, id⟩
    · simpa [releaseQuiet, Arbiter.release, Fin.val_ne_of_ne (Ne.symm other)] using mem
    · simp only [releaseQuiet, Arbiter.release, State.setArbiter_arbiter] at mem
      split at mem
      · cases mem
      · exact mem
    · simpa [releaseQuiet, Arbiter.release, Fin.val_ne_of_ne (Ne.symm other)] using mem

theorem returnPairs_onlyMoves (n : NestId) : OnlyMoves n s (returnPairs n s) := by
  have freed : OnlyMoves n s (s.setBank { s.bank with free := s.bank.free + (s.nest n).pairs.length }) := .of_eq n rfl rfl rfl rfl
  exact freed.trans (modNest_onlyMoves n fun x => { x with pairs := [] })

theorem enterSettle_onlyMoves (n : NestId) : OnlyMoves n s (enterSettle n s) := modNest_onlyMoves n _

theorem startStep_onlyMoves (n : NestId) (st : Step) : OnlyMoves n s (startStep n st s) := by
  unfold startStep meetGate
  refine (modNest_onlyMoves n (·.toGate st)).trans ?_
  split
  · exact enterSettle_onlyMoves n
  · exact joinQuiet_onlyMoves n
  · split
    · exact (passLoud_onlyMoves n).trans (enterSettle_onlyMoves n)
    · exact waitLoud_onlyMoves n

theorem advance_onlyMoves (n : NestId) (muted : Bool) : OnlyMoves n s (advance n muted s) := by
  rcases advance_cases n muted s with same | ⟨_, f, finished | ⟨st, started⟩⟩
  · rw [same]; exact .of_eq n rfl rfl rfl rfl
  · rw [finished]; exact (modRecord_onlyMoves n f).trans ((modNest_onlyMoves n _).trans (modRecord_onlyMoves n _))
  · rw [started]; exact (modRecord_onlyMoves n f).trans (startStep_onlyMoves n st)

theorem endStep_onlyMoves (n : NestId) (muted : Bool) : OnlyMoves n s (endStep n muted s) :=
  ((returnPairs_onlyMoves n).trans (releaseQuiet_onlyMoves n)).trans (advance_onlyMoves n muted)

theorem retryStart_onlyMoves (h : retryStart n s = some t) : OnlyMoves n s t := by
  obtain ⟨_, _, st, f, rfl⟩ := retryStart_some_cases h
  exact ((modNest_onlyMoves n _).trans (modRecord_onlyMoves n f)).trans (startStep_onlyMoves n st)

theorem withdrawStep_onlyMoves (n : NestId) : OnlyMoves n s (withdrawStep s n) := by
  rcases withdrawStep_cases s n with same | ⟨f, ended | retried⟩
  · rw [same]; exact .of_eq n rfl rfl rfl rfl
  · rw [ended]; exact (modRecord_onlyMoves n f).trans (endStep_onlyMoves n true)
  · exact ((modRecord_onlyMoves n f).trans (endStep_onlyMoves n true)).trans (retryStart_onlyMoves retried)

/-! ## Updates of a nest -/

theorem PlacesFollowPhase.of_eq (h : PlacesFollowPhase s) (nests : t.nests = s.nests) (arbiter : t.arbiter = s.arbiter)
    (bank : t.bank.queue = s.bank.queue) (close : t.store.closeWait = s.store.closeWait) : PlacesFollowPhase t := by
  have nest (n : NestId) : t.nest n = s.nest n := by rw [State.nest, State.nest, nests]
  refine placesFollowPhase_of_placed (fun n => (h.placed n).of_within (.of_eq arbiter bank close) ?_ ?_ ?_ ?_) ?_
  · rw [nest]
  · rw [nest]
  · rw [nest]
  · rw [nest]; exact id
  · exact ⟨arbiter ▸ h.quietOnce, bank ▸ h.allocOnce, close ▸ h.closeOnce⟩

/-- An update of a Unit Record concerns no place. -/
theorem PlacesFollowPhase.modRecord (h : PlacesFollowPhase s) (n : NestId) (f : UnitRecord → UnitRecord) :
    PlacesFollowPhase (s.modRecord n f) :=
  (modRecord_onlyMoves n f).places h ((h.placed n).of_within (.of_eq rfl rfl rfl) (by simp) (by simp) (by simp) (by simp))
    ⟨h.quietOnce, h.allocOnce, h.closeOnce⟩

/-- A nest without a place may take any state without a phase, and any phase in TESTING. -/
theorem PlacesFollowPhase.modNest_unclaimed (h : PlacesFollowPhase s) (free : Unclaimed s n) {f : Nest → Nest}
    (pairs : (f (s.nest n)).pairs = (s.nest n).pairs) (noPhase : (f (s.nest n)).state ≠ .testing → (f (s.nest n)).phase = none) :
    PlacesFollowPhase (s.modNest n f) ∧ Unclaimed (s.modNest n f) n := by
  have unclaimed : Unclaimed (s.modNest n f) n := free.of_within (.of_eq rfl rfl rfl) (by simpa using pairs)
  exact ⟨(modNest_onlyMoves n f).places h (unclaimed.placed (by simpa using noPhase)) ⟨h.quietOnce, h.allocOnce, h.closeOnce⟩, unclaimed⟩

/-- A nest outside TESTING has no place. -/
theorem PlacesFollowPhase.unclaimed (h : PlacesFollowPhase s) (other : (s.nest n).state ≠ .testing) : Unclaimed s n :=
  (h.placed n).unclaimed (h.noPhase n other)

/-! ## The start and the end of a step -/

/-- A nest in GATE_WAIT of a quiet step joins the Quiet Request Queue (R48). -/
theorem joinQuiet_places (h : PlacesFollowPhase s) (free : Unclaimed s n) {st : Step} (phase : (s.nest n).phase = some .gateWait)
    (step : (s.nest n).step = some st) (cls : st.cls = .quiet) : PlacesFollowPhase (joinQuiet n s) := by
  refine (joinQuiet_onlyMoves n).places h { free.placed (h.noPhase n) with quiet := fun _ => ⟨phase, st, step, cls⟩ } ⟨?_, h.allocOnce, h.closeOnce⟩
  exact List.nodup_append.mpr ⟨h.quietOnce, by simp, fun a mem b new => by
    rw [List.mem_singleton.mp new]; exact fun same => free.queue (same ▸ mem)⟩

/-- A nest in GATE_WAIT of a loud step waits at the loud gate (R51). -/
theorem waitLoud_places (h : PlacesFollowPhase s) (free : Unclaimed s n) {st : Step} (phase : (s.nest n).phase = some .gateWait)
    (step : (s.nest n).step = some st) (cls : st.cls = .loud) : PlacesFollowPhase (waitLoud n s) :=
  (waitLoud_onlyMoves n).places h { free.placed (h.noPhase n) with loud := fun _ => ⟨phase, st, step, cls⟩ }
    ⟨h.quietOnce, h.allocOnce, h.closeOnce⟩

/-- A nest in SETTLE of a loud step is past the loud gate (R51). -/
theorem passLoud_places (h : PlacesFollowPhase s) (free : Unclaimed s n) {st : Step} (phase : (s.nest n).phase = some .settle)
    (step : (s.nest n).step = some st) (cls : st.cls = .loud) : PlacesFollowPhase (passLoud n s) := by
  have nest : (passLoud n s).nest n = s.nest n := rfl
  exact (passLoud_onlyMoves n).places h { free.placed (h.noPhase n) with
    loudPast := fun _ => ⟨by rw [nest, phase]; rfl, by rw [nest, phase]; nofun, st, step, cls⟩
    loud := fun mem => by simp [passLoud] at mem } ⟨h.quietOnce, h.allocOnce, h.closeOnce⟩

/-- A nest in TESTING without a place comes, with its step, to the place of its class (R38, R48, R51). -/
theorem startStep_places (h : PlacesFollowPhase s) (free : Unclaimed s n) (testing : (s.nest n).state = .testing) (st : Step) :
    PlacesFollowPhase (startStep n st s) := by
  obtain ⟨gated, unclaimed⟩ := h.modNest_unclaimed free (f := (·.toGate st)) rfl fun other => absurd testing other
  have nest : (s.modNest n (·.toGate st)).nest n = (s.nest n).toGate st := State.modNest_nest_self s n
  obtain ⟨settled, unclaimed'⟩ := gated.modNest_unclaimed unclaimed (f := Nest.toSettle) rfl fun other =>
    absurd (by rw [nest]; exact testing) other
  unfold startStep meetGate
  split
  · exact settled
  · next quiet => exact joinQuiet_places gated unclaimed (by rw [nest]; rfl) (by rw [nest]; rfl) quiet
  · next loud =>
    split
    · have swap : enterSettle n (passLoud n (s.modNest n (·.toGate st))) = passLoud n (enterSettle n (s.modNest n (·.toGate st))) := rfl
      have enters : (enterSettle n (s.modNest n (·.toGate st))).nest n = ((s.nest n).toGate st).toSettle := by simp [enterSettle]
      rw [swap]
      exact passLoud_places settled unclaimed' (by rw [enters]; rfl) (by rw [enters]; rfl) loud
    · exact waitLoud_places gated unclaimed (by rw [nest]; rfl) (by rw [nest]; rfl) loud

/-- The walk's advance of a nest in TESTING without a place (R31). -/
theorem advance_places (h : PlacesFollowPhase s) (free : Unclaimed s n) (testing : (s.nest n).state = .testing) (muted : Bool) :
    PlacesFollowPhase (advance n muted s) := by
  have modified (f : UnitRecord → UnitRecord) : Unclaimed (s.modRecord n f) n := free.of_within (.of_eq rfl rfl rfl) (by simp)
  rcases advance_cases n muted s with same | ⟨_, f, finished | ⟨st, started⟩⟩
  · rw [same]; exact h
  · rw [finished]
    exact ((h.modRecord n f).modNest_unclaimed (modified f) rfl fun _ => rfl).1.modRecord n _
  · rw [started]
    exact startStep_places (h.modRecord n f) (modified f) (by simpa using testing) st

/-- What the end of a step returns and releases leaves the nest without a place, but for the Allocation Queue and the close-wait list. -/
theorem release_unclaimed (alloc : ∀ k, (n, k) ∉ s.bank.queue) (close : n ∉ s.store.closeWait) :
    Unclaimed (releaseQuiet n (returnPairs n s)) n where
  queue mem := by simp [releaseQuiet, Arbiter.release] at mem
  loudWait := by simp [releaseQuiet, Arbiter.release]
  holder mem := by
    simp only [releaseQuiet, Arbiter.release, State.setArbiter_arbiter] at mem
    split at mem
    · cases mem
    · next other => exact other mem
  loudPast := by simp [releaseQuiet, Arbiter.release]
  alloc k mem := alloc k (by simpa [returnPairs] using mem)
  close mem := close (by simpa using mem)
  pairs := by simp [releaseQuiet, returnPairs]

/-- The end of a step of a nest in TESTING that waits neither for pairs nor for a record (R73, R44, R60). -/
theorem endStep_places (h : PlacesFollowPhase s) (testing : (s.nest n).state = .testing) (alloc : ∀ k, (n, k) ∉ s.bank.queue)
    (close : n ∉ s.store.closeWait) (muted : Bool) : PlacesFollowPhase (endStep n muted s) := by
  have unclaimed := release_unclaimed alloc close
  have still : ((releaseQuiet n (returnPairs n s)).nest n).state = .testing := by simpa [releaseQuiet, returnPairs] using testing
  have released : PlacesFollowPhase (releaseQuiet n (returnPairs n s)) :=
    ((returnPairs_onlyMoves n).trans (releaseQuiet_onlyMoves n)).places h (unclaimed.placed fun other => absurd still other)
      ⟨by simpa [releaseQuiet, Arbiter.release] using h.quietOnce.filter _, by simpa [returnPairs] using h.allocOnce, by simpa using h.closeOnce⟩
  exact advance_places released unclaimed still muted

/-- A nest out of the close-wait list. -/
theorem PlacesFollowPhase.leaveClose (h : PlacesFollowPhase s) (n : NestId) (nests : t.nests = s.nests) (arbiter : t.arbiter = s.arbiter)
    (bank : t.bank = s.bank) (close : t.store.closeWait = s.store.closeWait.filter fun m => !(m == n)) : PlacesFollowPhase t := by
  have nest (m : NestId) : t.nest m = s.nest m := by rw [State.nest, State.nest, nests]
  have fewer (m : NestId) : ClaimsWithin s t m :=
    ⟨arbiter ▸ id, arbiter ▸ id, arbiter ▸ id, arbiter ▸ id, fun _ => bank ▸ id, fun mem => (List.mem_filter.mp (close ▸ mem)).1⟩
  refine placesFollowPhase_of_placed (fun m => (h.placed m).of_within (fewer m) ?_ ?_ ?_ ?_) ⟨arbiter ▸ h.quietOnce, bank ▸ h.allocOnce, ?_⟩
  · rw [nest]
  · rw [nest]
  · rw [nest]
  · rw [nest]; exact id
  · rw [close]; exact h.closeOnce.filter _

@[simp] theorem unwatch_nest (n m : NestId) : (unwatch n s).nest m = s.nest m := rfl

/-- The close of the window of a nest in MEASURE or CLOSE_WAIT (R73). -/
theorem closeWindow_places (h : PlacesFollowPhase s)
    (phase : (s.nest n).phase = some .measure ∨ (s.nest n).phase = some .closeWait) : PlacesFollowPhase (closeWindow n s) := by
  rcases closeWindow_cases n s with left | ⟨w, f, ended⟩
  · rw [left]; exact h.leaveClose n rfl rfl rfl rfl
  · have taken : PlacesFollowPhase (unwatch n (s.setStore (s.store.takeRecord n w))) :=
      h.leaveClose n (by simp) (by simp) (by simp) (by simp [Store.takeRecord])
    rw [ended]
    refine endStep_places (taken.modRecord n f) ?_ (fun k mem => ?_) (fun mem => ?_) false
    · have testing : (s.nest n).state = .testing := phase.elim (h.placed n).testing (h.placed n).testing
      simpa using testing
    · have waits := ((h.placed n).alloc k (by simpa using mem)).1
      rcases phase with phase | phase <;> rw [phase] at waits <;> cases waits
    · simp [Store.takeRecord] at mem

/-! ## The events of a step -/

/-- A nest of the places may go on from SETTLE, OPEN_WAIT or MEASURE to a phase that its pairs allow, past GATE_WAIT. -/
theorem PlacesFollowPhase.modNest_phase (h : PlacesFollowPhase s) {p q : StepPhase} (phase : (s.nest n).phase = some p)
    (fromPhase : p = .settle ∨ p = .openWait ∨ p = .measure) (toPhase : q ≠ .gateWait) {f : Nest → Nest}
    (next : (f (s.nest n)).phase = some q) (state : (f (s.nest n)).state = (s.nest n).state) (step : (f (s.nest n)).step = (s.nest n).step)
    (pairs : (f (s.nest n)).pairs = (s.nest n).pairs) (allowed : p = .settle ∨ q = .measure ∨ q = .closeWait) :
    PlacesFollowPhase (s.modNest n f) := by
  have here := h.placed n
  have away : ∀ {r : StepPhase}, (s.nest n).phase = some r → r = p := fun other => Option.some.inj (other.symm.trans phase)
  refine (modNest_onlyMoves n f).places h ?_ ⟨h.quietOnce, h.allocOnce, h.closeOnce⟩
  constructor <;> simp only [State.modNest_nest_self, next, state, step, pairs]
  · exact fun other => absurd (here.testing phase) other
  · intro some
    rcases allowed with rfl | rfl | rfl
    · rcases here.pairs some with other | other | other <;> cases away other
    · simp
    · simp
  · intro mem
    have := away (here.quiet mem).1
    subst this; simp at fromPhase
  · intro mem
    have := away (here.loud mem).1
    subst this; simp at fromPhase
  · exact fun mem => ⟨rfl, by simpa using toPhase, (here.holder mem).2.2⟩
  · exact fun mem => ⟨rfl, by simpa using toPhase, (here.loudPast mem).2.2⟩
  · intro k mem
    have := away (here.alloc k mem).1
    subst this; simp at fromPhase
  · intro mem
    have := away (here.close mem)
    subst this; simp at fromPhase

theorem settleEnd_places (taken : settleEnd n s = some t) (h : PlacesFollowPhase s) : PlacesFollowPhase t := by
  obtain ⟨st, settles, step, rfl | rfl⟩ := settleEnd_cases taken
  · exact h.modNest_phase settles (.inl rfl) (by decide) rfl rfl rfl rfl (.inl rfl)
  · have waits : PlacesFollowPhase (s.modNest n fun x => { x with phase := some .allocWait }) :=
      h.modNest_phase settles (.inl rfl) (by decide) rfl rfl rfl rfl (.inl rfl)
    have fresh : ∀ k, (n, k) ∉ s.bank.queue := fun k mem => by simpa [settles] using ((h.placed n).alloc k mem).1
    have move : OnlyMoves n (s.modNest n fun x => { x with phase := some .allocWait })
        (joinAllocation n st.pairs.length (s.modNest n fun x => { x with phase := some .allocWait })) :=
      ⟨fun _ _ => rfl, fun m other => ⟨id, id, id, id, fun k mem => by simpa [joinAllocation, other] using mem, id⟩⟩
    refine move.places waits { waits.placed n with alloc := fun k mem => ?_ } ⟨waits.quietOnce, ?_, waits.closeOnce⟩
    · have new : k = st.pairs.length := by simpa [joinAllocation, fresh k] using mem
      exact ⟨by simp, st, by simpa using step, new.symm⟩
    · have := h.allocOnce
      simp only [joinAllocation, State.setBank_bank, State.modNest_bank, List.map_append, List.map_cons, List.map_nil]
      refine List.nodup_append.mpr ⟨this, by simp, fun a mem b new => ?_⟩
      rintro rfl
      obtain ⟨⟨m, k⟩, asks, same⟩ := List.mem_map.mp mem
      cases (show m = n from same.trans (List.mem_singleton.mp new))
      exact fresh k asks

theorem windowOpen_places (taken : windowOpen n s = some t) (h : PlacesFollowPhase s) : PlacesFollowPhase t := by
  obtain ⟨st, waits, _, rfl⟩ := windowOpen_cases taken
  have opened : PlacesFollowPhase (s.modNest n fun x => { x with phase := some .measure, count := 0 }) :=
    h.modNest_phase waits (.inr (.inl rfl)) (by decide) rfl rfl rfl rfl (.inr (.inl rfl))
  exact opened.of_eq (by simp) (by simp) (by simp) (by simp)

theorem joinCloseWait_places (h : PlacesFollowPhase s) (measure : (s.nest n).phase = some .measure) :
    PlacesFollowPhase (joinCloseWait n s) := by
  have waits : PlacesFollowPhase (s.modNest n fun x => { x with phase := some .closeWait }) :=
    h.modNest_phase measure (.inr (.inr rfl)) (by decide) rfl rfl rfl rfl (.inr (.inr rfl))
  have fresh : n ∉ s.store.closeWait := fun mem => by simpa [measure] using (h.placed n).close mem
  have move : OnlyMoves n (s.modNest n fun x => { x with phase := some .closeWait }) (joinCloseWait n s) :=
    ⟨fun _ _ => rfl, fun m other => ⟨id, id, id, id, fun _ => id, fun mem => by simpa [joinCloseWait, other] using mem⟩⟩
  refine move.places waits { waits.placed n with close := fun _ => by simp } ⟨waits.quietOnce, waits.allocOnce, ?_⟩
  exact List.nodup_append.mpr ⟨h.closeOnce, by simp, fun a mem b new => by
    rw [List.mem_singleton.mp new]; exact fun same => fresh (same ▸ mem)⟩

/-- The state after a pair grant, before the watch entry of a window that opens at once. -/
theorem grantPairs_places {k : Nat} {rest : List (NestId × Nat)} {st : Step} (h : PlacesFollowPhase s)
    (queue : s.bank.queue = (n, k) :: rest) : PlacesFollowPhase (grantPairs n k rest st s) := by
  have here := h.placed n
  have waits := (here.alloc k (by simp [queue])).1
  have once := h.allocOnce
  simp only [queue, List.map_cons, List.nodup_cons, List.mem_map, not_exists, not_and] at once
  obtain ⟨fresh, once⟩ := once
  have popped : OnlyMoves n s (s.setBank { free := s.bank.free - k, queue := rest }) :=
    ⟨fun _ _ => rfl, fun m _ => ⟨id, id, id, id, fun j mem => queue ▸ List.mem_cons_of_mem _ mem, id⟩⟩
  refine (popped.trans (modNest_onlyMoves n (·.toWindow st))).places h ?_ ⟨h.quietOnce, once, h.closeOnce⟩
  have nest : (grantPairs n k rest st s).nest n = (s.nest n).toWindow st := State.modNest_nest_self _ n
  have open_ : ((s.nest n).toWindow st).phase = some .openWait ∨ ((s.nest n).toWindow st).phase = some .measure := by
    unfold Nest.toWindow
    cases st.trim <;> simp
  have past : ((s.nest n).toWindow st).phase.isSome = true ∧ ((s.nest n).toWindow st).phase ≠ some .gateWait := by
    rcases open_ with phase | phase <;> simp [phase]
  change Placed (grantPairs n k rest st s) n
  constructor <;> rw [nest]
  · exact fun other => absurd (here.testing waits) other
  · exact fun _ => open_.imp_right .inl
  · exact fun mem => by simpa [waits] using (here.quiet mem).1
  · exact fun mem => by simpa [waits] using (here.loud mem).1
  · exact fun mem => ⟨past.1, past.2, (here.holder mem).2.2⟩
  · exact fun mem => ⟨past.1, past.2, (here.loudPast mem).2.2⟩
  · exact fun j mem => absurd rfl (fresh (n, j) mem)
  · exact fun mem => by simpa [waits] using here.close mem

theorem pairGrant_places (taken : pairGrant s = some t) (h : PlacesFollowPhase s) : PlacesFollowPhase t := by
  obtain ⟨n, k, rest, queue, _, ⟨none_, rfl⟩ | ⟨st, _, granted⟩⟩ := pairGrant_cases taken
  · obtain ⟨_, st, step, _⟩ := (h.placed n).alloc k (by simp [queue])
    rw [none_] at step; cases step
  · have places := grantPairs_places (st := st) h queue
    rcases granted with rfl | rfl
    · exact places
    · exact places.of_eq (by simp) (by simp) (by simp) (by simp)

theorem quietGrant_places (taken : quietGrant s = some t) (h : PlacesFollowPhase s) : PlacesFollowPhase t := by
  obtain ⟨n, rest, queue, _, empty, rfl⟩ := quietGrant_cases taken
  have here := h.placed n
  obtain ⟨gate, st, step, quiet⟩ := here.quiet (by simp [queue])
  have once := h.quietOnce
  rw [queue] at once
  obtain ⟨fresh, once⟩ := List.nodup_cons.mp once
  have granted : OnlyMoves n s (s.setArbiter { s.arbiter with queue := rest, holder := some n }) :=
    ⟨fun _ _ => rfl, fun m other => ⟨fun mem => queue ▸ List.mem_cons_of_mem _ mem, id, fun mem => absurd (Option.some.inj mem).symm other, id,
      fun _ => id, id⟩⟩
  refine (granted.trans (enterSettle_onlyMoves n)).places h ?_ ⟨by simpa using once, by simpa using h.allocOnce, by simpa using h.closeOnce⟩
  have nest : (enterSettle n (s.setArbiter { s.arbiter with queue := rest, holder := some n })).nest n = (s.nest n).toSettle :=
    State.modNest_nest_self _ n
  constructor <;> rw [nest]
  · exact fun other => absurd (here.testing gate) other
  · exact fun some => by simpa [gate] using here.pairs some
  · exact fun mem => absurd (by simpa using mem) fresh
  · intro mem
    obtain ⟨_, st', step', loud⟩ := here.loud (by simpa using mem)
    rw [step] at step'; cases step'
    rw [quiet] at loud; cases loud
  · exact fun _ => ⟨rfl, by simp [Nest.toSettle], st, step, quiet⟩
  · exact fun mem => by simp [empty n] at mem
  · exact fun j mem => by simpa [gate] using (here.alloc j (by simpa using mem)).1
  · exact fun mem => by simpa [gate] using here.close (by simpa using mem)

theorem passIfWaiting_places (h : PlacesFollowPhase s) (n : NestId) : PlacesFollowPhase (passIfWaiting s n) := by
  unfold passIfWaiting
  split
  · next waits =>
    have here := h.placed n
    obtain ⟨gate, st, step, loud⟩ := here.loud waits
    refine ((passLoud_onlyMoves n).trans (enterSettle_onlyMoves n)).places h ?_
      ⟨by simpa [passLoud] using h.quietOnce, by simpa using h.allocOnce, by simpa using h.closeOnce⟩
    have nest : (enterSettle n (passLoud n s)).nest n = (s.nest n).toSettle := State.modNest_nest_self _ n
    constructor <;> rw [nest]
    · exact fun other => absurd (here.testing gate) other
    · exact fun some => by simpa [gate] using here.pairs some
    · intro mem
      obtain ⟨_, st', step', quiet⟩ := here.quiet (by simpa [passLoud] using mem)
      rw [step] at step'; cases step'
      rw [loud] at quiet; cases quiet
    · exact fun mem => by simp [passLoud] at mem
    · exact fun mem => absurd gate (here.holder (by simpa [passLoud] using mem)).2.1
    · exact fun _ => ⟨rfl, by simp [Nest.toSettle], st, step, loud⟩
    · exact fun j mem => by simpa [gate] using (here.alloc j (by simpa using mem)).1
    · exact fun mem => by simpa [gate] using here.close (by simpa using mem)
  · exact h

/-! ## Aborts, retries and the withdrawal -/

theorem abortUnit_places (reason : AbortReason) (underTest : (s.nest n).state.underTest = true) (h : PlacesFollowPhase s) :
    PlacesFollowPhase (abortUnit n reason s) := by
  have nest (m : NestId) (other : m ≠ n) : (abortUnit n reason s).nest m = s.nest m := by
    rw [abortReleasesEveryClaim n reason s (underTest_iff.mp underTest)]
    exact State.setNest_nest_ne s (Ne.symm other)
  have released := abortReleasesEveryClaim n reason s (underTest_iff.mp underTest)
  have here : (abortUnit n reason s).nest n = _ := (congrArg (State.nest · n) released).trans (State.setNest_nest_self s n)
  have claims (m : NestId) (other : m ≠ n) : ClaimsWithin s (abortUnit n reason s) m := by
    rw [released]
    refine ⟨fun mem => (List.mem_filter.mp mem).1, fun mem => ?_, fun mem => ?_, fun mem => ?_, fun k mem => (List.mem_filter.mp mem).1,
      fun mem => (List.mem_filter.mp mem).1⟩
    · simpa [Fin.val_ne_of_ne (Ne.symm other)] using mem
    · dsimp only at mem
      split at mem
      · cases mem
      · exact mem
    · simpa [Fin.val_ne_of_ne (Ne.symm other)] using mem
  have unclaimed : Unclaimed (abortUnit n reason s) n := by
    constructor
    case pairs => rw [here]
    all_goals rw [released]
    · simp
    · simp
    · dsimp only
      split
      · nofun
      · next other => exact other
    · simp
    · simp
    · simp
  refine OnlyMoves.places ⟨nest, claims⟩ h (unclaimed.placed fun _ => by rw [here]) ?_
  rw [released]
  exact ⟨h.quietOnce.filter _, h.allocOnce.sublist (List.filter_sublist.map _), h.closeOnce.filter _⟩

theorem retryStart_places (taken : retryStart n s = some t) (h : PlacesFollowPhase s) : PlacesFollowPhase t := by
  obtain ⟨finishing, _, st, f, rfl⟩ := retryStart_some_cases taken
  have other : (s.nest n).state ≠ .testing := by rw [finishing]; nofun
  obtain ⟨resumed, unclaimed⟩ := h.modNest_unclaimed (h.unclaimed other) (f := fun x => { x with state := .testing }) rfl fun still =>
    absurd rfl still
  exact startStep_places (resumed.modRecord n f) (unclaimed.of_within (.of_eq rfl rfl rfl) (by simp)) (by simp) st

theorem withdrawStep_places (h : PlacesFollowPhase s) (free : Unclaimed s n) (testing : (s.nest n).state = .testing) :
    PlacesFollowPhase (withdrawStep s n) := by
  have ended (f : UnitRecord → UnitRecord) : PlacesFollowPhase (endStep n true (s.modRecord n f)) :=
    endStep_places (h.modRecord n f) (by simpa using testing) free.alloc free.close true
  rcases withdrawStep_cases s n with same | ⟨f, ends | retried⟩
  · rw [same]; exact h
  · rw [ends]; exact ended f
  · exact retryStart_places retried (ended f)

/-- A nest of the Quiet Request Queue stands in no other place, so the emptied queue leaves it without one. -/
theorem Placed.unclaimed_of_emptied (h : Placed s n) (mem : n ∈ s.arbiter.queue) (arbiter : t.arbiter = { s.arbiter with queue := [] })
    (nests : t.nests = s.nests) (bank : t.bank = s.bank) (close : t.store.closeWait = s.store.closeWait) : Unclaimed t n := by
  obtain ⟨gate, st, step, quiet⟩ := h.quiet mem
  have nest : t.nest n = s.nest n := by rw [State.nest, State.nest, nests]
  constructor
  · simp [arbiter]
  · rw [arbiter]
    refine Bool.eq_false_iff.mpr fun waits => ?_
    obtain ⟨_, st', step', loud⟩ := h.loud waits
    rw [step] at step'; cases step'
    rw [quiet] at loud; cases loud
  · rw [arbiter]
    exact fun holds => (h.holder holds).2.1 gate
  · rw [arbiter]
    exact Bool.eq_false_iff.mpr fun past => (h.loudPast past).2.1 gate
  · exact fun k mem => by simpa [gate] using (h.alloc k (bank ▸ mem)).1
  · exact fun mem => by simpa [gate] using h.close (close ▸ mem)
  · rw [nest]
    exact by_contra fun some => by simpa [gate] using h.pairs some

theorem foldl_withdrawStep_places : ∀ (l : List NestId) {s : State}, PlacesFollowPhase s → l.Nodup →
    (∀ n ∈ l, Unclaimed s n ∧ (s.nest n).state = .testing) → PlacesFollowPhase (l.foldl withdrawStep s)
  | [], _, h, _, _ => h
  | n :: l, s, h, once, ready => by
    obtain ⟨fresh, once⟩ := List.nodup_cons.mp once
    obtain ⟨free, testing⟩ := ready n (by simp)
    refine foldl_withdrawStep_places l (withdrawStep_places h free testing) once fun m mem => ?_
    have other : m ≠ n := fun same => fresh (same ▸ mem)
    obtain ⟨free', testing'⟩ := ready m (by simp [mem])
    exact ⟨(withdrawStep_onlyMoves n).unclaimed other free', by rw [(withdrawStep_onlyMoves n).nest m other]; exact testing'⟩

theorem withdrawAll_places (h : PlacesFollowPhase s) : PlacesFollowPhase (withdrawAll s) := by
  refine foldl_withdrawStep_places _ ?_ h.quietOnce fun n mem => ⟨(h.placed n).unclaimed_of_emptied mem rfl rfl rfl rfl, ?_⟩
  · refine placesFollowPhase_of_placed (fun n => (h.placed n).of_within ⟨fun mem => by simp at mem, id, id, id, fun _ => id, id⟩ rfl rfl rfl id)
      ⟨.nil, h.allocOnce, h.closeOnce⟩
  · exact testing_of_queued h mem

/-! ## The invariant -/

theorem NestMove.places (move : NestMove s t) (h : PlacesFollowPhase s) : PlacesFollowPhase t := by
  have idle {n : NestId} {f : Nest → Nest} (other : (s.nest n).state ≠ .testing) (pairs : (f (s.nest n)).pairs = (s.nest n).pairs)
      (phase : (f (s.nest n)).phase = none ∨ (f (s.nest n)).phase = (s.nest n).phase) : PlacesFollowPhase (s.modNest n f) ∧ Unclaimed (s.modNest n f) n :=
    h.modNest_unclaimed (h.unclaimed other) pairs fun _ => phase.elim id fun same => same.trans (h.noPhase n other)
  cases move with
  | alike x same =>
    refine placesFollowPhase_of_placed (fun n => ?_) ⟨h.quietOnce, h.allocOnce, h.closeOnce⟩
    obtain ⟨state, phase, step, _, _, _, pairs⟩ := same n
    exact (h.placed n).of_within (.of_eq rfl rfl rfl) state phase step fun some none_ => some (List.length_eq_zero_iff.mp (by
      rw [show (s.setNests x).nest n = x[n] from rfl, pairs, none_]; rfl))
  | load n empty => exact (idle (by rw [empty]; nofun) rfl (.inr rfl)).1
  | start n r ready =>
    obtain ⟨begun, unclaimed⟩ := idle (f := (·.begin r)) (by rcases ready with ready | ready <;> rw [ready] <;> nofun) rfl (.inl rfl)
    exact startStep_places (begun.modRecord n _) (unclaimed.of_within (.of_eq rfl rfl rfl) (by simp)) (by simp [Nest.begin]) _
  | empty n leaves => exact (idle (by rcases leaves with leaves | leaves | leaves <;> rw [leaves] <;> nofun) rfl (.inl rfl)).1
  | grade n finishing => exact (idle (by rw [finishing]; nofun) rfl (.inl rfl)).1
  | dispose n pass disposing => exact (idle (by rw [disposing]; nofun) rfl (.inr rfl)).1
  | abort n reason underTest => exact abortUnit_places reason underTest h
  | retry n taken => exact retryStart_places taken h
  | settleEnd n taken => exact settleEnd_places taken h
  | pairGrant taken => exact pairGrant_places taken h
  | windowOpen n taken => exact windowOpen_places taken h
  | lastWindowFrame n taken =>
    rcases lastWindowFrame_cases taken with ⟨measure, _, rfl⟩ | ⟨measure, rfl⟩
    · exact closeWindow_places h (.inl measure)
    · exact joinCloseWait_places h measure
  | windowClose taken =>
    obtain ⟨n, rest, waits, _, rfl⟩ := windowClose_cases taken
    exact closeWindow_places h (.inr (h.close n (by simp [waits])))
  | windowlessStepEnd n taken =>
    obtain ⟨measure, rfl⟩ := windowlessStepEnd_cases taken
    have here := h.placed n
    exact endStep_places h (here.testing measure) (fun k mem => by simpa [measure] using (here.alloc k mem).1)
      (fun mem => by simpa [measure] using here.close mem) false
  | quietGrant taken => exact quietGrant_places taken h
  | loudGatePass taken =>
    obtain ⟨_, rfl⟩ := loudGatePass_cases taken
    exact List.foldlRecOn (motive := PlacesFollowPhase) nestIds passIfWaiting h fun _ hu n _ => passIfWaiting_places hu n
  | withdraw => exact withdrawAll_places h

/-- Right after either reset no nest has a place. -/
theorem places_of_reset {i : Inputs} (nests : s.nests = nestsAtReset i) (arbiter : s.arbiter = .atReset) (bank : s.bank = .atReset)
    (store : s.store = .atReset) : PlacesFollowPhase s := by
  refine placesFollowPhase_of_placed (fun n => ?_) ⟨by rw [arbiter]; exact .nil, by rw [bank]; exact .nil, by rw [store]; exact .nil⟩
  obtain ⟨loaded, reset⟩ := nestsAtReset_get i n
  have nest : s.nest n = Nest.atReset loaded := by rw [State.nest, nests, reset]
  have unclaimed : Unclaimed s n :=
    ⟨by simp [arbiter, Arbiter.atReset], by simp [arbiter, Arbiter.atReset], by simp [arbiter, Arbiter.atReset],
      by simp [arbiter, Arbiter.atReset], by simp [bank, Bank.atReset], by simp [store, Store.atReset], by rw [nest]; rfl⟩
  exact unclaimed.placed fun _ => by rw [nest]; rfl

theorem places_keptByMoves : KeptByMoves PlacesFollowPhase where
  powerOn l q := places_of_reset rfl rfl rfl rfl
  keep move h := by
    cases move with
    | outer move =>
      obtain ⟨nests, arbiter, bank, store⟩ := move.inner_eq
      exact h.of_eq nests arbiter (by rw [bank]) (by rw [store])
    | store move =>
      obtain ⟨nests, arbiter, bank, _, _, _, _, _, close⟩ := move.rest_eq
      exact h.of_eq nests arbiter (by rw [bank]) close
    | nest move => exact move.places h
    | resetPart => exact places_of_reset rfl rfl rfl rfl

/-- Settles O9: every move concerns one nest at a time, and takes it out of its places before it goes on to the next ones. -/
theorem stepKeepsPlaces : Obligations.StepKeepsPlaces := fun _ _ places h => places_keptByMoves.kept.step_keeps places h

end Sys2Proof.Machine
end

section
/-! PROOFS. The sorting outputs (R16) and the pairs of the Correlator Bank (R65), as every step keeps them with the places of the nests, and the
invariants right after reset. -/

namespace Sys2Proof.Machine

open Sys2Proof

variable {s t : State} {n : NestId}

/-! ## The sorting outputs (R16) -/

/-- The outputs of one nest: never both high, and low outside DISPOSED. -/
abbrev Sorted (x : Nest) : Prop := ¬(x.pass = true ∧ x.reject = true) ∧ (x.pass = true ∨ x.reject = true → x.state = .disposed)

/-- Outside DISPOSED both outputs are low, so the nest may take any state with them. -/
theorem Sorted.low {x y : Nest} (h : Sorted x) (state : x.state ≠ .disposed) (pass : y.pass = x.pass) (reject : y.reject = x.reject) :
    Sorted y := by
  have low : ¬(x.pass = true ∨ x.reject = true) := fun high => state (h.2 high)
  exact ⟨by rw [pass, reject]; exact h.1, by rw [pass, reject]; exact fun high => absurd high low⟩

theorem Sorted.of_life {x y : Nest} (h : Sorted x) (life : SameLife x y) : Sorted y := by
  obtain ⟨state, _, pass, reject, _⟩ := life
  rw [Sorted, state, pass, reject]
  exact h

theorem OutputsSorted.of_life (h : OutputsSorted s) (life : ∀ m, SameLife (s.nest m) (t.nest m)) : OutputsSorted t :=
  fun m => Sorted.of_life (h m) (life m)

theorem OutputsSorted.of_nests (h : OutputsSorted s) (nests : t.nests = s.nests) : OutputsSorted t := h.of_life fun m => by
  rw [State.nest, State.nest, nests]; exact SameLife.refl _

theorem OutputsSorted.modNest (h : OutputsSorted s) (n : NestId) {f : Nest → Nest} (here : Sorted (f (s.nest n))) :
    OutputsSorted (s.modNest n f) := fun m => by
  rw [State.modNest_nest]
  split
  · next same => exact same ▸ here
  · exact h m

/-- The end of a step may take the nest to FINISHING, with its outputs low (R12). -/
theorem endStep_sorted (h : OutputsSorted s) (state : (s.nest n).state ≠ .disposed) (muted : Bool) : OutputsSorted (endStep n muted s) :=
  fun m => by
    rcases endStep_life (s := s) n m muted with life | ⟨rfl, _, life⟩
    · exact Sorted.of_life (h m) life
    · exact (Sorted.low (y := { s.nest m with state := .finishing }) (h m) state rfl rfl).of_life life

theorem closeWindow_sorted (h : OutputsSorted s) (state : (s.nest n).state ≠ .disposed) : OutputsSorted (closeWindow n s) := by
  rcases closeWindow_cases n s with left | ⟨w, f, ended⟩
  · rw [left]; exact h
  · rw [ended]
    refine endStep_sorted (OutputsSorted.of_life (s := s) h fun m => ?_) (by simpa using state) false
    exact modRecord_sameLife (s := unwatch n (s.setStore (s.store.takeRecord n w))) n m

theorem retryStart_sorted (taken : retryStart n s = some t) (h : OutputsSorted s) : OutputsSorted t := by
  obtain ⟨finishing, _, st, f, rfl⟩ := retryStart_some_cases taken
  have resumed := h.modNest n (f := fun x => { x with state := .testing })
    (Sorted.low (h n) (by rw [finishing]; nofun) rfl rfl)
  exact (resumed.of_life fun m => modRecord_sameLife n m).of_life fun m => startStep_sameLife n m st

theorem withdrawStep_sorted (h : OutputsSorted s) (state : (s.nest n).state ≠ .disposed) : OutputsSorted (withdrawStep s n) := by
  have ended (f : UnitRecord → UnitRecord) : OutputsSorted (endStep n true (s.modRecord n f)) :=
    endStep_sorted (h.of_life fun m => modRecord_sameLife n m) (by simpa using state) true
  rcases withdrawStep_cases s n with same | ⟨f, ends | retried⟩
  · rw [same]; exact h
  · rw [ends]; exact ended f
  · exact retryStart_sorted retried (ended f)

theorem foldl_withdrawStep_sorted : ∀ (l : List NestId) {s : State}, OutputsSorted s → l.Nodup →
    (∀ n ∈ l, (s.nest n).state = .testing) → OutputsSorted (l.foldl withdrawStep s)
  | [], _, h, _, _ => h
  | n :: l, s, h, once, testing => by
    obtain ⟨fresh, once⟩ := List.nodup_cons.mp once
    refine foldl_withdrawStep_sorted l (withdrawStep_sorted h (by rw [testing n (by simp)]; nofun)) once fun m mem => ?_
    rw [(withdrawStep_onlyMoves n).nest m fun same => fresh (same ▸ mem)]
    exact testing m (by simp [mem])

theorem abortUnit_sorted (reason : AbortReason) (underTest : (s.nest n).state.underTest = true) (h : OutputsSorted s) :
    OutputsSorted (abortUnit n reason s) := fun m => by
  have state : (s.nest n).state ≠ .disposed := fun disposed => by rw [disposed] at underTest; cases underTest
  rw [abortReleasesEveryClaim n reason s (underTest_iff.mp underTest)]
  change Sorted (State.nest (s.setNest n _) m)
  rw [State.setNest_nest]
  split
  · exact Sorted.low (h n) state rfl rfl
  · exact h m

theorem NestMove.sorted (move : NestMove s t) (places : PlacesFollowPhase s) (h : OutputsSorted s) : OutputsSorted t := by
  have phased {n : NestId} {p : StepPhase} (phase : (s.nest n).phase = some p) : (s.nest n).state ≠ .disposed := by
    rw [(places.placed n).testing phase]; nofun
  cases move with
  | alike x same =>
    intro m
    obtain ⟨state, _, _, _, pass, reject, _⟩ := same m
    change Sorted x[m]
    rw [Sorted, state, pass, reject]
    exact h m
  | load n empty => exact h.modNest n (Sorted.low (h n) (by rw [empty]; nofun) rfl rfl)
  | start n r _ => exact (h.modNest n (f := (·.begin r)) (by simp [Nest.begin, Sorted])).of_life fun m => startAt_sameLife n m r 0 0 true
  | empty n _ => exact h.modNest n (by simp [Nest.emptied, Sorted])
  | grade n finishing => exact h.modNest n (Sorted.low (h n) (by rw [finishing]; nofun) rfl rfl)
  | dispose n pass _ => exact h.modNest n (by cases pass <;> simp [Nest.toDisposed, Sorted])
  | abort n reason underTest => exact abortUnit_sorted reason underTest h
  | retry n taken => exact retryStart_sorted taken h
  | settleEnd n taken => exact h.of_life (settleEnd_sameLife taken)
  | pairGrant taken => exact h.of_life (pairGrant_sameLife taken)
  | windowOpen n taken => exact h.of_life (windowOpen_sameLife taken)
  | lastWindowFrame n taken =>
    rcases lastWindowFrame_cases taken with ⟨measure, _, rfl⟩ | ⟨_, rfl⟩
    · exact closeWindow_sorted h (phased measure)
    · exact h.of_life (joinCloseWait_sameLife n)
  | windowClose taken =>
    obtain ⟨n, rest, waits, _, rfl⟩ := windowClose_cases taken
    exact closeWindow_sorted h (phased (places.close n (by simp [waits])))
  | windowlessStepEnd n taken =>
    obtain ⟨measure, rfl⟩ := windowlessStepEnd_cases taken
    exact endStep_sorted h (phased measure) false
  | quietGrant taken => exact h.of_life (quietGrant_sameLife taken)
  | loudGatePass taken => exact h.of_life (loudGatePass_sameLife taken)
  | withdraw => exact foldl_withdrawStep_sorted _ h places.quietOnce fun n mem => testing_of_queued places mem

/-- Right after either reset every output is low. -/
theorem sorted_of_reset {i : Inputs} (nests : s.nests = nestsAtReset i) : OutputsSorted s := fun n => by
  obtain ⟨loaded, reset⟩ := nestsAtReset_get i n
  rw [State.nest, nests, reset]
  simp [Nest.atReset]

theorem sorted_keptByMoves : KeptByMoves fun s => PlacesFollowPhase s ∧ OutputsSorted s where
  powerOn l q := ⟨places_keptByMoves.powerOn l q, sorted_of_reset rfl⟩
  keep move h := by
    refine ⟨places_keptByMoves.keep move h.1, ?_⟩
    cases move with
    | outer move => exact OutputsSorted.of_nests h.2 move.inner_eq.1
    | store move => exact OutputsSorted.of_nests h.2 move.rest_eq.1
    | nest move => exact move.sorted h.1 h.2
    | resetPart => exact sorted_of_reset rfl

/-- Settles O10: a nest leaves DISPOSED with its outputs low, and a nest with a step, which may go to FINISHING, is in TESTING by its place. -/
theorem stepKeepsSortingOutputs : Obligations.StepKeepsSortingOutputs := fun _ _ places sorted h =>
  (sorted_keptByMoves.kept.step_keeps ⟨places, sorted⟩ h).2

/-! ## The pairs (R65) -/

/-- The free pairs and the held ones together. -/
def totalPairs (s : State) : Nat := s.bank.free + heldPairs s

theorem heldPairs_eq (s : State) : heldPairs s =
    (s.nest 0).pairs.length + (s.nest 1).pairs.length + (s.nest 2).pairs.length + (s.nest 3).pairs.length := by
  simp [heldPairs, nestIds]; omega

theorem heldPairs_congr (h : ∀ m, (t.nest m).pairs.length = (s.nest m).pairs.length) : heldPairs t = heldPairs s := by
  simp only [heldPairs_eq, h]

theorem totalPairs_of_eq (nests : t.nests = s.nests) (bank : t.bank.free = s.bank.free) : totalPairs t = totalPairs s := by
  have held : heldPairs t = heldPairs s := heldPairs_congr fun m => by rw [State.nest, State.nest, nests]
  rw [totalPairs, totalPairs, held, bank]

/-- An update of a nest moves the held pairs by what its own change. -/
theorem heldPairs_modNest (n : NestId) (f : Nest → Nest) :
    heldPairs (s.modNest n f) + (s.nest n).pairs.length = heldPairs s + (f (s.nest n)).pairs.length := by
  simp only [heldPairs_eq, State.modNest_nest]
  fin_cases n <;> simp <;> omega

/-- An update of a nest that keeps its pairs. -/
theorem totalPairs_modNest (n : NestId) {f : Nest → Nest} (pairs : (f (s.nest n)).pairs = (s.nest n).pairs) :
    totalPairs (s.modNest n f) = totalPairs s := by
  have held := heldPairs_modNest (s := s) n f
  rw [pairs] at held
  simp only [totalPairs, State.modNest_bank]
  omega

@[simp] theorem totalPairs_modRecord (n : NestId) (f : UnitRecord → UnitRecord) : totalPairs (s.modRecord n f) = totalPairs s :=
  totalPairs_modNest n rfl

@[simp] theorem totalPairs_enterSettle (n : NestId) : totalPairs (enterSettle n s) = totalPairs s := totalPairs_modNest n rfl

@[simp] theorem totalPairs_setArbiter (x : Arbiter) : totalPairs (s.setArbiter x) = totalPairs s := rfl

@[simp] theorem totalPairs_startStep (n : NestId) (st : Step) : totalPairs (startStep n st s) = totalPairs s := by
  have gated : totalPairs (s.modNest n (·.toGate st)) = totalPairs s := totalPairs_modNest n rfl
  unfold startStep meetGate
  (repeat' split) <;> simp [passLoud, joinQuiet, waitLoud, gated]

@[simp] theorem totalPairs_advance (n : NestId) (muted : Bool) : totalPairs (advance n muted s) = totalPairs s := by
  rcases advance_cases n muted s with same | ⟨_, f, finished | ⟨st, started⟩⟩
  · rw [same]
  · rw [finished, enterFinishing, totalPairs_modRecord, totalPairs_modNest n rfl, totalPairs_modRecord]
  · rw [started, totalPairs_startStep, totalPairs_modRecord]

/-- What a nest holds returns to the bank (R68). -/
@[simp] theorem totalPairs_returnPairs (n : NestId) : totalPairs (returnPairs n s) = totalPairs s := by
  have held := heldPairs_modNest (s := s.setBank { s.bank with free := s.bank.free + (s.nest n).pairs.length }) n fun x => { x with pairs := [] }
  have same : heldPairs (s.setBank { s.bank with free := s.bank.free + (s.nest n).pairs.length }) = heldPairs s := rfl
  simp only [totalPairs, returnPairs, State.modNest_bank, State.setBank_bank]
  simp only [State.setBank_nest, List.length_nil, same] at held
  omega

@[simp] theorem totalPairs_endStep (n : NestId) (muted : Bool) : totalPairs (endStep n muted s) = totalPairs s := by
  rw [endStep, totalPairs_advance, releaseQuiet, totalPairs_setArbiter, totalPairs_returnPairs]

@[simp] theorem totalPairs_closeWindow (n : NestId) : totalPairs (closeWindow n s) = totalPairs s := by
  rcases closeWindow_cases n s with left | ⟨w, f, ended⟩
  · rw [left]; rfl
  · rw [ended, totalPairs_endStep, totalPairs_modRecord]
    exact totalPairs_of_eq (by simp) (by simp)

theorem totalPairs_retryStart (taken : retryStart n s = some t) : totalPairs t = totalPairs s := by
  obtain ⟨_, _, st, f, rfl⟩ := retryStart_some_cases taken
  rw [totalPairs_startStep, totalPairs_modRecord, totalPairs_modNest n rfl]

@[simp] theorem totalPairs_withdrawStep (n : NestId) : totalPairs (withdrawStep s n) = totalPairs s := by
  rcases withdrawStep_cases s n with same | ⟨f, ends | retried⟩
  · rw [same]
  · rw [ends, totalPairs_endStep, totalPairs_modRecord]
  · rw [totalPairs_retryStart retried, totalPairs_endStep, totalPairs_modRecord]

theorem totalPairs_abortUnit (n : NestId) (reason : AbortReason) : totalPairs (abortUnit n reason s) = totalPairs s := by
  unfold abortUnit
  split
  · have dropped (u : State) : totalPairs (dropRecords n u) = totalPairs u := by
      unfold dropRecords
      exact totalPairs_modRecord (s := u.setStore _) n _
    have released : totalPairs (releaseClaims n s) = totalPairs s :=
      (totalPairs_of_eq (t := releaseClaims n s) (s := returnPairs n s) (by simp [releaseClaims]) (by
        simp [releaseClaims, leaveAllocation])).trans (totalPairs_returnPairs n)
    calc totalPairs (((dropRecords n (releaseClaims n s)).modRecord n (·.aborted reason)).modNest n (·.toDisposing (!isPresent s n)))
        = totalPairs ((dropRecords n (releaseClaims n s)).modRecord n (·.aborted reason)) := totalPairs_modNest n rfl
      _ = totalPairs s := by rw [totalPairs_modRecord, dropped, released]
  · rfl

/-- A pair grant moves the pairs of the head's request from the bank to a nest in ALLOC_WAIT, which held none (R67). -/
theorem totalPairs_grantPairs {k : Nat} {rest : List (NestId × Nat)} {st : Step} (places : PlacesFollowPhase s)
    (queue : s.bank.queue = (n, k) :: rest) (enough : k ≤ s.bank.free) (step : (s.nest n).step = some st) :
    totalPairs (grantPairs n k rest st s) = totalPairs s := by
  obtain ⟨waits, st', step', request⟩ := (places.placed n).alloc k (by simp [queue])
  rw [step] at step'; cases step'
  have none_ : (s.nest n).pairs = [] := by_contra fun some => by simpa [waits] using places.pairs n some
  have held := heldPairs_modNest (s := s.setBank { free := s.bank.free - k, queue := rest }) n (·.toWindow st)
  have same : heldPairs (s.setBank { free := s.bank.free - k, queue := rest }) = heldPairs s := rfl
  have taken : ((s.nest n).toWindow st).pairs.length = k := request
  simp only [State.setBank_nest, none_, List.length_nil, taken, same] at held
  simp only [totalPairs, grantPairs, State.modNest_bank, State.setBank_bank]
  omega

theorem NestMove.totalPairs_eq (move : NestMove s t) (places : PlacesFollowPhase s) : totalPairs t = totalPairs s := by
  cases move with
  | alike x same =>
    have held : heldPairs (s.setNests x) = heldPairs s := heldPairs_congr fun m => by
      obtain ⟨_, _, _, _, _, _, pairs⟩ := same m
      exact pairs
    rw [totalPairs, held]; rfl
  | load n _ => exact totalPairs_modNest n rfl
  | start n r _ => rw [startAt, totalPairs_startStep, totalPairs_modRecord, totalPairs_modNest n rfl]
  | empty n _ => exact totalPairs_modNest n rfl
  | grade n _ => exact totalPairs_modNest n rfl
  | dispose n pass _ => exact totalPairs_modNest n rfl
  | abort n reason _ => exact totalPairs_abortUnit n reason
  | retry n taken => exact totalPairs_retryStart taken
  | settleEnd n taken =>
    obtain ⟨st, _, _, rfl | rfl⟩ := settleEnd_cases taken
    · exact totalPairs_modNest n rfl
    · exact (totalPairs_of_eq (by simp) (by simp [joinAllocation])).trans (totalPairs_modNest n (f := fun x => { x with phase := some .allocWait }) rfl)
  | pairGrant taken =>
    obtain ⟨n, k, rest, queue, enough, ⟨_, rfl⟩ | ⟨st, step, rfl | rfl⟩⟩ := pairGrant_cases taken
    · rfl
    · exact totalPairs_grantPairs places queue enough step
    · exact (totalPairs_of_eq (by simp) (by simp)).trans (totalPairs_grantPairs places queue enough step)
  | windowOpen n taken =>
    obtain ⟨st, _, _, rfl⟩ := windowOpen_cases taken
    exact (totalPairs_of_eq (by simp) (by simp)).trans (totalPairs_modNest n (f := fun x => { x with phase := some .measure, count := 0 }) rfl)
  | lastWindowFrame n taken =>
    rcases lastWindowFrame_cases taken with ⟨_, _, rfl⟩ | ⟨_, rfl⟩
    · exact totalPairs_closeWindow n
    · exact (totalPairs_of_eq (t := joinCloseWait n s) (s := s.modNest n fun x => { x with phase := some .closeWait }) rfl rfl).trans
        (totalPairs_modNest n rfl)
  | windowClose taken =>
    obtain ⟨n, rest, _, _, rfl⟩ := windowClose_cases taken
    exact totalPairs_closeWindow n
  | windowlessStepEnd n taken =>
    obtain ⟨_, rfl⟩ := windowlessStepEnd_cases taken
    exact totalPairs_endStep n false
  | quietGrant taken =>
    obtain ⟨n, rest, _, _, _, rfl⟩ := quietGrant_cases taken
    rw [totalPairs_enterSettle, totalPairs_setArbiter]
  | loudGatePass taken =>
    obtain ⟨_, rfl⟩ := loudGatePass_cases taken
    refine List.foldlRecOn (motive := fun u => totalPairs u = totalPairs s) nestIds passIfWaiting rfl fun u hu n _ => ?_
    unfold passIfWaiting
    split <;> simp [passLoud, hu]
  | withdraw =>
    refine List.foldlRecOn (motive := fun u => totalPairs u = totalPairs s) _ _ rfl fun u hu n _ => ?_
    rw [totalPairs_withdrawStep, hu]

/-- Right after either reset all pairs are free. -/
theorem totalPairs_of_reset {i : Inputs} (nests : s.nests = nestsAtReset i) (bank : s.bank = .atReset) : totalPairs s = 96 := by
  have none_ (n : NestId) : (s.nest n).pairs = [] := by
    obtain ⟨loaded, reset⟩ := nestsAtReset_get i n
    rw [State.nest, nests, reset]; rfl
  rw [totalPairs, heldPairs_eq, bank]
  simp [none_, Bank.atReset, Config.pairs]

theorem pairsConserved_keptByMoves : KeptByMoves fun s => PlacesFollowPhase s ∧ PairsConserved s where
  powerOn l q := ⟨places_keptByMoves.powerOn l q, totalPairs_of_reset rfl rfl⟩
  keep {s t} move h := by
    obtain ⟨places, conserved⟩ := h
    refine ⟨places_keptByMoves.keep move places, ?_⟩
    change totalPairs s = 96 at conserved
    change totalPairs t = 96
    rw [← conserved]
    cases move with
    | outer move => exact totalPairs_of_eq move.inner_eq.1 (by rw [move.inner_eq.2.2.1])
    | store move => exact totalPairs_of_eq move.rest_eq.1 (by rw [move.rest_eq.2.2.1])
    | nest move => exact move.totalPairs_eq places
    | resetPart => rw [conserved]; exact totalPairs_of_reset rfl rfl

/-- Settles O11: the pairs return to the bank as they leave a nest, and a grant takes from the bank what the nest's step asks for. -/
theorem stepKeepsPairs : Obligations.StepKeepsPairs := fun _ _ places conserved h =>
  (pairsConserved_keptByMoves.kept.step_keeps ⟨places, conserved⟩ h).2

/-! ## Right after reset -/

/-- Settles O6: the state after reset is a release of RESET_N, of which every invariant that the moves keep holds. -/
theorem resetMeetsTheInvariants : Obligations.ResetMeetsTheInvariants :=
  ⟨storeConserved_keptByMoves.powerOn _ _, holdAscending_keptByMoves.powerOn _ _, recordsHeld_keptByMoves.powerOn _ _,
    places_keptByMoves.powerOn _ _, (sorted_keptByMoves.powerOn _ _).2, (pairsConserved_keptByMoves.powerOn _ _).2,
    queuesBounded_keptByMoves.powerOn _ _, runningValidated_keptByMoves.powerOn _ _, quietAlone_keptByMoves.powerOn _ _,
    passesCounted_keptByMoves.powerOn _ _⟩

end Sys2Proof.Machine
end

section
/-! PROOFS. The step and the end of an event (log entries 2, 6 and 7): the front of the queue, the consequences that end an event and the blocks
that they leave, and the queue that every row leaves to the step. With them the power-on state (R185) and the saturating counts (R140). -/

namespace Sys2Proof.Machine

open Sys2Proof

variable {s t : State}

/-- Settles O1: the two cases of the step. -/
theorem stepRunsFrontCommand : Obligations.StepRunsFrontCommand :=
  ⟨fun _ _ _ => rfl, fun s empty => by rw [step, empty]⟩

/-- Settles O3. -/
theorem eventEndsInItsEffect : Obligations.EventEndsInItsEffect :=
  ⟨fun _ => settle_quiet, fun _ _ taken => settleWith_step taken 255, fun _ => flush_nothingDue⟩

/-- Settles O47: the two branches of an increment. -/
theorem countsSaturate : Obligations.CountsSaturate := fun c => by
  unfold Count.bump Config.lotCount
  refine ⟨fun below => if_pos below, fun full => ?_, fun bounded => ?_⟩
  · rw [if_neg (by omega), ← full]
  · split
    · next below => exact below
    · exact bounded

/-- Settles O5: the power-on state is given block by block, the nests by the levels of their two inputs. -/
theorem powerOnState : Obligations.PowerOnState := fun l s => by
  refine ⟨_, rfl, fun n => ?_, rfl, rfl, rfl, fun n => ?_, ?_⟩
  · simp [State.powerOn, Inputs.powerOn, InputState.settled]
  · have nests : ((State.powerOn l s.pending).nest n) = Nest.atReset (l.present[n] && l.clamp[n]) := by
      fin_cases n <;> simp [State.nest, State.powerOn, nestsAtReset, Inputs.powerOn, InputState.settled]
    rw [nests]
    exact ⟨rfl, rfl, rfl, rfl, rfl, rfl, rfl, rfl, rfl, rfl, rfl⟩
  · and_intros <;> rfl

/-! ## The blocks that the consequences leave (log entry 7) -/

/-- The Station Port without what an event or a message placed in the Result Queue changes. -/
def Port.link (p : Port) : Port :=
  { p with results := [], reserved := false, waiting := none, alertPending := Vector.replicate 8 false, unreported := 0, dropped := 0 }

/-- The state without what a consequence changes: the inputs, the tables, the Converter Port, the queue of waiting commands, the sums and streams
of the Guard Monitor, the fault state and the link of the Station Port stand, and every other block is that of a part after reset. -/
def outerBlocks (s : State) : State :=
  { State.reset with
    inputs := s.inputs, tables := s.tables, conv := s.conv, pending := s.pending, guard := { s.guard with watch := [] },
    run := { s.run with mode := .standby }, port := s.port.link }

@[simp] theorem Port.countDrop_link (p : Port) : p.countDrop.link = p.link := rfl

@[simp] theorem Port.place_link (p : Port) (m : Message) : (p.place m).link = p.link := rfl

@[simp] theorem Port.offerNotice_link (p : Port) (e : Event) : (p.offerNotice e).link = p.link := by
  rcases p.offerNotice_cases e with ⟨_, h⟩ | ⟨_, h⟩ <;> rw [h] <;> rfl

@[simp] theorem handOver_link (e : Event) (s : State) : (handOver e s).port.link = s.port.link := by
  unfold handOver Port.handOver
  dsimp only [State.setPort_port]
  split
  · rw [Port.offerNotice_link]; rfl
  · rfl

@[simp] theorem countGraded_link (n : NestId) (r : UnitRecord) (d : Disposition) : (countGraded n r d s).port.link = s.port.link := by
  unfold countGraded failCheck yieldCheck
  dsimp only
  (repeat' split) <;> simp

@[simp] theorem placeReport_link (n : NestId) (r : UnitRecord) : (placeReport n r s).port.link = s.port.link := rfl

@[simp] theorem reserveSlot_link (b : Bool) : (reserveSlot b s).port.link = s.port.link := rfl

/-- Two states with the same outer blocks, from the equality of each. -/
theorem outerBlocks_congr (inputs : t.inputs = s.inputs) (tables : t.tables = s.tables) (conv : t.conv = s.conv)
    (pending : t.pending = s.pending) (guard : ({ t.guard with watch := [] } : Guard) = { s.guard with watch := [] })
    (run : ({ t.run with mode := .standby } : RunControl) = { s.run with mode := .standby }) (link : t.port.link = s.port.link) :
    outerBlocks t = outerBlocks s := by
  simp only [outerBlocks, inputs, tables, conv, pending, guard, run, link]

/-- A window close changes no outer block but the watch list. -/
theorem closeWindow_outer (n : NestId) : outerBlocks (closeWindow n s) = outerBlocks s := by
  refine outerBlocks_congr (by simp) (by simp) (by simp) (by simp) ?_ (by simp) (by simp)
  rcases closeWindow_cases n s with left | ⟨w, f, ended⟩
  · rw [left]; rfl
  · rw [ended]; simp [unwatch]

/-- A disposal changes no outer block. -/
theorem disposeNest_outer {n : NestId} (h : disposeNest s n = some t) : outerBlocks t = outerBlocks s := by
  rcases disposeNest_cases h with ⟨r, d, rfl⟩ | ⟨r, rfl⟩
  · exact outerBlocks_congr (by simp) (by simp) (by simp) (by simp) (by simp) (by simp) (by simp [disposeGraded])
  · exact outerBlocks_congr (by simp) (by simp) (by simp) (by simp) (by simp) (by simp) (by simp [disposeAborted])

/-- A consequence changes no outer block, while no message waits in the Command Buffer. -/
theorem internals_outer (empty : s.port.buffer = []) : ∀ event ∈ internals, event s = some t → outerBlocks t = outerBlocks s := by
  have zero (n : NestId) (h : zeroSettle n s = some t) : outerBlocks t = outerBlocks s := by simp [outerBlocks, zeroSettle_frame n h]
  have retry (n : NestId) (h : retryStart n s = some t) : outerBlocks t = outerBlocks s := by simp [outerBlocks, retryStart_frame n h]
  have grade (n : NestId) (h : grading n s = some t) : outerBlocks t = outerBlocks s := by simp [outerBlocks, grading_frame n h]
  have close (h : windowClose s = some t) : outerBlocks t = outerBlocks s := by
    obtain ⟨n, _, _, _, rfl⟩ := windowClose_cases h
    exact closeWindow_outer n
  have grant (h : pairGrant s = some t) : outerBlocks t = outerBlocks s := by
    refine outerBlocks_congr ?_ ?_ ?_ ?_ ?_ ?_ ?_ <;> simp only [pairGrant_frame h]
    obtain ⟨n, k, rest, _, _, ⟨_, rfl⟩ | ⟨st, _, rfl | rfl⟩⟩ := pairGrant_cases h <;> rfl
  have reserve (h : reserveNext s = some t) : outerBlocks t = outerBlocks s := by
    obtain ⟨n, _, hn⟩ := List.exists_of_findSome?_eq_some h
    exact disposeNest_outer hn
  have waits (h : waitingReply s = some t) : outerBlocks t = outerBlocks s := by
    unfold waitingReply at h
    (repeat' split at h) <;> cases h
    rfl
  have drops (h : reportsDropped s = some t) : outerBlocks t = outerBlocks s := by
    unfold reportsDropped at h
    split at h <;> cases h
    exact outerBlocks_congr (by simp) (by simp) (by simp) (by simp) (by simp) (by simp) (by simp; rfl)
  have held (h : heldReached s = some t) : outerBlocks t = outerBlocks s := by
    unfold heldReached at h
    split at h <;> cases h
    exact outerBlocks_congr (by simp) (by simp) (by simp) (by simp) (by simp) (by simp) (by simp [changeMode])
  simp only [internals, List.forall_mem_cons]
  exact ⟨fun h => by simp [outerBlocks, permitPass_frame h], fun h => by simp [outerBlocks, quietGrant_frame h],
    fun h => by simp [outerBlocks, loudGatePass_frame h], fun h => by simp [outerBlocks, waitTimerChange_frame h], close, grant,
    zero 0, zero 1, zero 2, zero 3, retry 0, retry 1, retry 2, retry 3, grade 0, grade 1, grade 2, grade 3,
    fun h => by simp [outerBlocks, figureUnitTake_frame h], reserve, fun h => by simp [outerBlocks, markerFrameStart_frame h],
    waits, drops, held, fun h => by simp [serve, empty] at h, by simp⟩

/-- The end of an event changes no outer block, where no message waits in the Command Buffer. -/
theorem settle_outer (empty : s.port.buffer = []) : outerBlocks (settle s) = outerBlocks s :=
  settle_keeps (P := fun t => outerBlocks t = outerBlocks s) (fun event consequence u _ same taken =>
    have waits : u.port.buffer = [] := (congrArg (·.port.buffer) same).trans empty
    (internals_outer waits event consequence taken).trans same) rfl

/-- Settles O4: each of the blocks is read from the outer blocks of the state. -/
theorem consequencesLeaveTheOuterBlocks : Obligations.ConsequencesLeaveTheOuterBlocks := fun s empty => by
  have same := settle_outer empty
  have port := congrArg (·.port) same
  exact ⟨congrArg (·.inputs) same, congrArg (·.tables) same, congrArg (·.conv) same, congrArg (·.pending) same,
    congrArg (fun u => { u.guard with watch := s.guard.watch }) same, congrArg (fun u => { u.run with mode := s.run.mode }) same,
    (congrArg (·.buffer) port).trans empty, congrArg (·.assembly) port, congrArg (·.sending) port, congrArg (·.upstream) port,
    congrArg (·.holdOff) port, congrArg (·.noticeEnable) port, congrArg (·.alertEnable) port, congrArg (·.badFrames) port,
    congrArg (·.badMessages) port, congrArg (·.discarded) port⟩

/-! ## The queue of waiting commands -/

/-- The holds that a write completes leave the queue. -/
@[simp] theorem completeHolds_pending : (completeHolds s).pending = s.pending := by
  unfold completeHolds
  refine List.foldlRecOn (motive := fun t : State => t.pending = s.pending) _ _ rfl fun t ht i _ => ?_
  rcases attempt_cases (debouncedEdge i) t with ⟨_, stays⟩ | taken
  · rw [stays, ht]
  · rw [← ht]; simp [debouncedEdge_frame i taken]

/-- A table write leaves the queue. -/
theorem handleWriteTable_pending (w : TableWrite) : (handleWriteTable w s).1.pending = s.pending := by
  unfold handleWriteTable writeLocked
  (repeat' split) <;> simp [refuse, accept]

/-- Every command leaves the queue, RESET_PART too. -/
theorem handleCommand_pending (tag : Byte) (c : Command) : (handleCommand tag c s).1.pending = s.pending := by
  cases c
  case writeTable w => exact handleWriteTable_pending w
  case startRun | stopRun | holdSmart | holdForce | resume =>
    simp only [handleCommand, handleStartRun, handleStopRun, handleHoldSmart, handleHoldForce, handleResume]
    (repeat' split) <;> simp [refuse, accept]
  case newLot | startUnit | abortUnit =>
    simp only [handleCommand, handleNewLot, handleStartUnit, handleAbortUnit]
    (repeat' split) <;> simp [refuse, accept]
  case clearFault =>
    simp only [handleCommand, handleClearFault]
    split
    · rfl
    · simp only [accept]
      split <;> simp
  case readTable | clearNestAlert | readNest | resetPart =>
    simp only [handleCommand, handleReadTable, handleClearNestAlert, handleReadNest, handleResetPart]
    split <;> rfl
  case readStatus | readLot | readFaults => rfl
  all_goals
    simp only [handleCommand, handleSetNotices, handleClearNotices, handleSetAlerts, handleClearAlerts, handleAckAlerts, handleKinds]
    split <;> rfl

/-- A reply leaves the queue that the handling has left. -/
@[simp] theorem reply_pending (tag : Byte) (a : State × Answer) : (reply tag a).pending = a.1.pending := by
  unfold reply
  split <;> rfl

/-- A command taken leaves the queue. -/
theorem takeCommand_pending (b : Buffered) : (takeCommand b s).pending = s.pending := by
  rw [takeCommand, reply_pending]
  unfold handleRequest
  split
  · rfl
  · rfl
  · exact handleCommand_pending _ _

/-- The arrival of a message leaves the queue. -/
@[simp] theorem arrive_pending (b : Buffered) : (arrive b s).pending = s.pending := by
  unfold arrive
  (repeat' split)
  · exact takeCommand_pending b
  · rfl
  · rfl

/-- An event whose own effect leaves the queue. -/
def LeavesQueue (event : State → Option State) : Prop := ∀ {s t : State}, event s = some t → t.pending = s.pending

theorem serve_leavesQueue : LeavesQueue serve := fun h => by
  unfold serve at h
  (repeat' split at h) <;> cases h
  exact takeCommand_pending _

theorem disposeNest_leavesQueue (n : NestId) : LeavesQueue (disposeNest · n) := fun h => by
  rcases disposeNest_cases h with ⟨r, d, rfl⟩ | ⟨r, rfl⟩ <;> simp

theorem reserveNext_leavesQueue : LeavesQueue reserveNext := fun h => by
  obtain ⟨n, _, hn⟩ := List.exists_of_findSome?_eq_some h
  exact disposeNest_leavesQueue n hn

theorem disposal_leavesQueue (n : NestId) : LeavesQueue (disposal n) := fun h =>
  disposeNest_leavesQueue n (by simp [disposeNest, h])

theorem abortedDisposal_leavesQueue (n : NestId) : LeavesQueue (abortedDisposal n) := fun h => by
  obtain ⟨r, _, hr⟩ := Option.bind_eq_some_iff.mp h
  split at hr <;> cases hr
  simp

theorem computationOverdue_leavesQueue : LeavesQueue computationOverdue := fun h => by
  unfold computationOverdue at h
  split at h
  · simp [figureUnitCompletion_frame h]
  · cases h

theorem validationCompletion_leavesQueue : LeavesQueue validationCompletion := fun h => by
  unfold validationCompletion at h
  (repeat' split at h) <;> cases h <;> simp [accept, refuse]

theorem validationOverdue_leavesQueue : LeavesQueue validationOverdue := fun h => by
  unfold validationOverdue at h
  split at h
  · exact validationCompletion_leavesQueue h
  · cases h

/-- Every consequence leaves the queue. -/
theorem internals_leaveQueue : ∀ event ∈ internals, LeavesQueue event := by
  have zero (n : NestId) : LeavesQueue (zeroSettle n) := fun h => by simp [zeroSettle_frame n h]
  have retry (n : NestId) : LeavesQueue (retryStart n) := fun h => by simp [retryStart_frame n h]
  have grade (n : NestId) : LeavesQueue (grading n) := fun h => by simp [grading_frame n h]
  simp only [internals, List.forall_mem_cons]
  exact ⟨fun h => by simp [permitPass_frame h], fun h => by simp [quietGrant_frame h], fun h => by simp [loudGatePass_frame h],
    fun h => by simp [waitTimerChange_frame h], fun h => by simp [windowClose_frame h], fun h => by simp [pairGrant_frame h],
    zero 0, zero 1, zero 2, zero 3, retry 0, retry 1, retry 2, retry 3, grade 0, grade 1, grade 2, grade 3,
    fun h => by simp [figureUnitTake_frame h], reserveNext_leavesQueue, fun h => by simp [markerFrameStart_frame h],
    fun h => by simp [waitingReply_frame h], fun h => by simp [reportsDropped_frame h], fun h => by simp [heldReached_frame h],
    serve_leavesQueue, by simp⟩

/-- Every due event leaves the queue. -/
theorem dueEvents_leaveQueue : ∀ event ∈ dueEvents, LeavesQueue event := by
  have settles (n : NestId) : LeavesQueue (settleEnd n) := fun h => by simp [settleEnd_frame n h]
  have opens (n : NestId) : LeavesQueue (windowOpen n) := fun h => by simp [windowOpen_frame n h]
  have last (n : NestId) : LeavesQueue (lastWindowFrame n) := fun h => by simp [lastWindowFrame_frame n h]
  have ends (n : NestId) : LeavesQueue (windowlessStepEnd n) := fun h => by simp [windowlessStepEnd_frame n h]
  have stalls (n : NestId) : LeavesQueue (disposalStall n) := fun h => by simp [disposalStall_frame n h]
  have edges : ∀ event ∈ allInputs.map debouncedEdge, LeavesQueue event :=
    List.forall_mem_map.mpr fun i _ _ _ h => by simp [debouncedEdge_frame i h]
  simp only [dueEvents, List.forall_mem_append, List.forall_mem_cons]
  exact ⟨⟨computationOverdue_leavesQueue, validationOverdue_leavesQueue,
    settles 0, opens 0, last 0, ends 0, settles 1, opens 1, last 1, ends 1, settles 2, opens 2, last 2, ends 2,
    settles 3, opens 3, last 3, ends 3, fun h => by simp [guardBlockEnd_frame h], fun h => by simp [permitArrival_frame h],
    fun h => by simp [permitPulseEnd_frame h], fun h => by simp [permitGapEnd_frame h], fun h => by simp [holdLimitExpiry_frame h],
    fun h => by simp [permitTimeout_frame h], stalls 0, stalls 1, stalls 2, stalls 3, fun h => by simp [replyTimeout_frame h],
    by simp⟩, edges⟩

/-- The end of an event leaves the queue. -/
@[simp] theorem settle_pending : (settle s).pending = s.pending :=
  settle_keeps (P := fun t => t.pending = s.pending) (fun event mem _ _ same taken => (internals_leaveQueue event mem taken).trans same) rfl

/-- An event leaves the queue with its consequences. -/
theorem happen_pending {event : State → Option State} (leaves : LeavesQueue event) : (happen event s).pending = s.pending := by
  unfold happen
  split
  · next taken => rw [settle_pending, leaves taken]
  · rfl

/-- The due events leave the queue. -/
@[simp] theorem flush_pending : (flush s).pending = s.pending :=
  List.foldlRecOn (motive := fun t : State => t.pending = s.pending) dueEvents _ rfl fun _ same event mem =>
    (happen_pending (dueEvents_leaveQueue event mem)).trans same

/-- A time without frame events leaves the queue. -/
@[simp] theorem lapse_pending : ∀ (k : Nat) (s : State), (lapse k s).pending = s.pending
  | 0, _ => rfl
  | k + 1, s => (lapse_pending k _).trans (by simp [tick])

@[simp] theorem sendByte_pending : (sendByte s).2.pending = s.pending := by
  unfold sendByte
  (repeat' split) <;> simp [beginMessage]

@[simp] theorem finishMessage_pending (bytes : List Byte) : (finishMessage bytes s).pending = s.pending := by
  unfold finishMessage
  split <;> simp

@[simp] theorem assembleByte_pending (b : Byte) : (assembleByte s b).pending = s.pending := by
  unfold assembleByte
  dsimp only
  (repeat' split) <;> simp [keepAssembly, badMessage]

/-- The exchange of the Station Port frames leaves the queue. -/
@[simp] theorem exchange_pending (samples : List Byte) (down : Option DownFrame) (downFirst : Bool) :
    (exchange samples down downFirst s).pending = s.pending := by
  have taken (u : State) : (takeDownstream down u).pending = u.pending := by
    unfold takeDownstream
    (repeat' split) <;> simp [takeGoodFrame, takeBadFrame]
  have sent (u : State) : (sendUpstream samples u).pending = u.pending := by simp [sendUpstream]
  unfold exchange
  split <;> simp [taken, sent]

/-- A frame event leaves the queue. -/
@[simp] theorem frameEvent_pending (f : InFrame) (timed : Bool) (down : Option DownFrame) (downFirst : Bool) :
    (frameEvent f timed down downFirst s).pending = s.pending := by
  simp [frameEvent, runFrame, tick]

/-- Settles O2: each row is an event with its consequences, a frame event, or the arrival of a command, and each of these leaves the queue. -/
theorem everyCommandCompletes : Obligations.EveryCommandCompletes := fun i s => by
  have due {event : State → Option State} (mem : event ∈ dueEvents) : (happen event s).pending = s.pending :=
    happen_pending (dueEvents_leaveQueue event mem)
  have consequence {event : State → Option State} (mem : event ∈ internals) : (happen event s).pending = s.pending :=
    happen_pending (internals_leaveQueue event mem)
  have served (b : Buffered) : (settle (arrive b s)).pending = s.pending := by simp
  cases i <;> refine ⟨_, rfl, ?_⟩
  case powerOn => rfl
  case inputHoldStart i _ => exact due (debouncedEdge_due i)
  case debouncedEdge i => exact due (debouncedEdge_due i)
  case frameEvent => simp
  case referenceFrameEvent | converterSyncLost => split <;> simp
  case permitInRise => exact due (by simp [dueEvents])
  case permitArrival | permitPulseEnd | permitGapEnd | holdLimitExpiry | permitTimeout | guardBlockEnd | replyTimeout =>
    exact due (by simp [dueEvents])
  case settleEnd n | windowOpen n | lastWindowFrame n | windowlessStepEnd n | disposalStall n =>
    exact due (by fin_cases n <;> simp [dueEvents])
  case retryStart n | grading n => exact consequence (by fin_cases n <;> simp [internals])
  case windowClose | quietGrant | loudGatePass | pairGrant | figureUnitTake | markerFrameStart | heldReached | waitingReply | reportsDropped =>
    exact consequence (by simp [internals])
  case figureUnitCompletion => exact happen_pending fun h => by simp [figureUnitCompletion_frame h]
  case validationCompletion => exact happen_pending validationCompletion_leavesQueue
  case disposal n => exact happen_pending (disposal_leavesQueue n)
  case abortedDisposal n => exact happen_pending (abortedDisposal_leavesQueue n)
  case sendCompletion => exact happen_pending fun h => by simp [sendCompletion_frame h]
  case ack => rw [receiveLine_ack]; exact happen_pending fun h => by simp [takeAck_frame h]
  case nak => rw [receiveLine_nak]; exact happen_pending fun h => by simp [takeNak_frame h]
  all_goals exact served _

end Sys2Proof.Machine
end

section
/-! PROOFS. The inputs and the fixture (R1, R3, R6, R15 to R17): the holds of the inputs, and what a debounced edge delivers to a nest in each state. -/

namespace Sys2Proof.Machine

open Sys2Proof

variable {s t : State} {n : NestId} {i : Input} {level : Bool}

/-! ## Debounced edges (R1) -/

/-- No edge is due before the hold of the input has lasted the debounce time. -/
theorem debouncedEdge_none (early : ∀ t, (s.inputs.get i).hold = some t → t < s.tables.config.debounce * 96) : debouncedEdge i s = none := by
  unfold debouncedEdge
  split
  · next t held =>
    have := early t held
    rw [if_neg (by simp only [ms, Config.framesPerMs]; omega)]
  · rfl

/-- A due edge gives the debounced state the level, and is delivered. -/
theorem debouncedEdge_some (due : EdgeDue i level s) : debouncedEdge i s = some (deliverEdge i level (s.withEdge i level)) := by
  obtain ⟨t, input, lasted⟩ := due
  simp [debouncedEdge, takeEdge, input, lasted, State.withEdge]

/-- DEBOUNCED_EDGE of a due edge. -/
theorem exec_debouncedEdge (due : EdgeDue i level s) :
    exec (.debouncedEdge i) s = .next (settle (deliverEdge i level (s.withEdge i level))) :=
  congrArg Host.Outcome.next (happen_some (debouncedEdge_some due))

/-- Settles O16: an edge that is not due leaves the state, and the delivery of a due one is nothing but the clearing of the pending set. -/
theorem inputHoldsAndEdges : Obligations.InputHoldsAndEdges := by
  refine ⟨fun i level s early => ?_, fun i level s unused due => ?_, fun s due => exec_debouncedEdge due⟩
  · have none_ := happen_none (debouncedEdge_none early)
    refine ⟨?_, congrArg Host.Outcome.next none_⟩
    change Host.Outcome.next (setLevel i level (happen (debouncedEdge i) s)) = _
    rw [none_, setLevel]
    unfold InputState.toLevel
    split <;> rfl
  · rw [exec_debouncedEdge due]
    obtain rfl | rfl | ⟨rfl, rfl⟩ := unused <;> rfl

/-! ## The fixture (R3, R6) -/

/-- The conditions of autostart (R10). -/
theorem autostarts_iff : autostarts s n = true ↔ AutostartHolds s n := by
  simp [autostarts, AutostartHolds, and_assoc]

/-- A nest that enters LOADED stays there where autostart does not hold. -/
theorem enterLoaded_stays (stays : ¬AutostartHolds s n) : enterLoaded n s = s.modNest n fun x => { x with state := .loaded } :=
  if_neg fun starts => stays (autostarts_iff (s := s.modNest n _).mp starts)

/-- A nest that enters LOADED is started by autostart with its default plan. -/
theorem enterLoaded_starts (holds : AutostartHolds s n) : enterLoaded n s =
    startUnit n s.tables.config.defaultPlan[n] none (s.modNest n fun x => { x with state := .loaded }) :=
  if_pos (autostarts_iff (s := s.modNest n _).mpr holds)

/-- A nest that enters EMPTY stays there where it is not present and clamped. -/
theorem enterEmpty_stays (gone : presentAndClamped s n = false) : enterEmpty n s = s.modNest n Nest.emptied :=
  if_neg (Bool.eq_false_iff.mp gone)

/-- A nest that enters EMPTY present and clamped goes on to LOADED. -/
theorem enterEmpty_loads (there : presentAndClamped s n = true) : enterEmpty n s = enterLoaded n (s.modNest n Nest.emptied) :=
  if_pos there

/-- The rising edge of a fixture input delivers LOAD where it makes the nest present and clamped. -/
theorem deliverEdge_rise (fixture : i = .present n ∨ i = .clamp n) : deliverEdge i true (s.withEdge i true) =
    if presentAndClamped (s.withEdge i true) n = true then loadEvent n (s.withEdge i true) else s.withEdge i true := by
  obtain rfl | rfl := fixture
  · have present : presentAndClamped (s.withEdge (.present n) true) n = isClamped (s.withEdge (.present n) true) n := by
      simp [presentAndClamped, isPresent, State.withEdge, Inputs.set]
    rw [present]; rfl
  · have clamped : presentAndClamped (s.withEdge (.clamp n) true) n = isPresent (s.withEdge (.clamp n) true) n := by
      simp [presentAndClamped, isClamped, State.withEdge, Inputs.set]
    rw [clamped]; rfl

/-- After the falling edge of a fixture input the nest is not present and clamped. -/
theorem presentAndClamped_fall (fixture : i = .present n ∨ i = .clamp n) : presentAndClamped (s.withEdge i false) n = false := by
  obtain rfl | rfl := fixture <;> simp [presentAndClamped, isPresent, isClamped, State.withEdge, Inputs.set]

@[simp] theorem withEdge_nest (m : NestId) : (s.withEdge i level).nest m = s.nest m := rfl

/-- LOAD is taken by an EMPTY nest alone (R6). -/
theorem loadEvent_eq : loadEvent n s = if (s.nest n).state = .empty then enterLoaded n s else s := by
  unfold loadEvent
  split
  · next empty => rw [if_pos empty]
  · next other => rw [if_neg other]

/-- At a PRESENT-fall or a CLAMP-fall a LOADED nest enters EMPTY, and at a PRESENT-fall a nest in DISPOSED too (R6, R16). -/
theorem deliverEdge_fall_empties (fixture : i = .present n ∨ i = .clamp n)
    (leaves : (s.nest n).state = .loaded ∨ (i = .present n ∧ (s.nest n).state = .disposed)) : deliverEdge i false s = enterEmpty n s := by
  obtain rfl | rfl := fixture
  · rcases leaves with loaded | ⟨_, disposed⟩
    · simp [deliverEdge, presentFall, loaded]
    · simp [deliverEdge, presentFall, disposed]
  · rcases leaves with loaded | ⟨other, _⟩
    · simp [deliverEdge, clampFall, loaded]
    · cases other

/-- At either fall a unit under test is aborted (R17). -/
theorem deliverEdge_fall_aborts (fixture : i = .present n ∨ i = .clamp n)
    (underTest : (s.nest n).state = .testing ∨ (s.nest n).state = .finishing) : deliverEdge i false s = abortUnit n .removed s := by
  obtain rfl | rfl := fixture <;> rcases underTest with state | state <;> simp [deliverEdge, presentFall, clampFall, state]

/-- At either fall an EMPTY nest is left as it is, and at a CLAMP-fall a nest in DISPOSING or DISPOSED too (R3). -/
theorem deliverEdge_fall_ignored (fixture : i = .present n ∨ i = .clamp n)
    (stays : (s.nest n).state = .empty ∨ (i = .clamp n ∧ ((s.nest n).state = .disposing ∨ (s.nest n).state = .disposed))) :
    deliverEdge i false s = s := by
  obtain rfl | rfl := fixture
  · rcases stays with empty | ⟨other, _⟩
    · simp [deliverEdge, presentFall, empty]
    · cases other
  · obtain state | ⟨_, state | state⟩ := stays <;> simp [deliverEdge, clampFall, state]

/-- Settles O17: a rise is LOAD or no event for the nest, a fall follows the nest's state, and a nest enters EMPTY by the levels that stand. -/
theorem fixtureEvents : Obligations.FixtureEvents := by
  refine ⟨fun n i s fixture due => ?_, fun n i s fixture due => ?_, fun n s => ?_⟩
  · rw [exec_debouncedEdge due, deliverEdge_rise fixture, loadEvent_eq, withEdge_nest]
    refine ⟨fun ignored => ?_, fun there empty stays => ?_, fun there empty starts => ?_⟩
    · rcases ignored with absent | other
      · rw [absent]; rfl
      · rw [if_neg other, ite_self]
    · rw [if_pos there, if_pos empty, enterLoaded_stays (s := s.withEdge i true) stays]
    · rw [if_pos there, if_pos empty, enterLoaded_starts (s := s.withEdge i true) starts]
      rfl
  · have emptied := enterEmpty_stays (presentAndClamped_fall (s := s) fixture)
    rw [exec_debouncedEdge due]
    refine ⟨fun stays => ?_, fun leaves => ?_, fun underTest => ?_, fun present disposing => ?_⟩
    · rw [deliverEdge_fall_ignored (s := s.withEdge i false) fixture stays]
    · rw [deliverEdge_fall_empties (s := s.withEdge i false) fixture leaves, emptied]
      rfl
    · rw [deliverEdge_fall_aborts (s := s.withEdge i false) fixture underTest]
    · subst present
      simp [deliverEdge, presentFall, disposing]
  · refine ⟨enterEmpty_stays, fun there stays => ?_, fun there starts => ?_⟩
    · rw [enterEmpty_loads there, enterLoaded_stays (s := s.modNest n Nest.emptied) stays]; rfl
    · rw [enterEmpty_loads there, enterLoaded_starts (s := s.modNest n Nest.emptied) starts]; rfl

end Sys2Proof.Machine
end

section
/-! PROOFS. The way of a unit through its steps (chapters 1 and 2): the start of a step by its class (R30, R38, R45), the start of a unit (R9),
the ends of SETTLE and OPEN_WAIT (R39, R41), the moves out of FINISHING (R12) and the stall of a disposal (R15). -/

namespace Sys2Proof.Machine

open Sys2Proof

variable {s t : State} {n m : NestId}

/-! ## The start of a step (R30, R38) -/

/-- A defined segment is the one that the walk finds at its index. -/
theorem segmentAt_of_defined {x : Tables} {i : Nat} {g : Segment} (defined : (x.segments[i]?).join = some g) : segmentAt x i = g := by
  simp [segmentAt, defined]

/-- The class is neutral exactly where the segment is not quiet and its level is within the ceiling (R45). -/
theorem classOf_ne_neutral (ceiling : Int) (g : Segment) :
    decide (classOf ceiling g ≠ .neutral) = (g.quiet || decide (ceiling < g.level)) := by
  unfold classOf
  cases g.quiet
  · by_cases above : ceiling < g.level <;> simp [above]
  · simp

/-- The entry into SETTLE replaces the nest. -/
theorem enterSettle_setNest (x : Nest) : enterSettle n (s.setNest n x) = s.setNest n x.toSettle := by
  simp [enterSettle, State.modNest_eq_setNest]

/-- The first frame of a ramp: from 0 where the step says so, and from the amplitude last played otherwise (R36). -/
theorem toSettle_toGate (x : Nest) (st : Step) : (x.toGate st).toSettle =
    { x.toGate st with
      phase := some .settle
      synth := { (x.toGate st).synth with rampStart := if st.fromZero then 0 else (x.toGate st).synth.amplitude } } := rfl

/-- Settles O26: the settings are read from the segment, and the gates follow the three classes, the loud one with its gate open or closed. -/
theorem stepStart : Obligations.StepStart := by
  refine ⟨fun x i j retry muted g defined => ?_, fun n st s => ?_⟩
  · have segment := segmentAt_of_defined defined
    rw [makeStep, segment]
    refine ⟨rfl, rfl, rfl, rfl, rfl, rfl, rfl, rfl, rfl, rfl, rfl, rfl, rfl, rfl, rfl, ?_⟩
    dsimp only
    rw [classOf_ne_neutral, Bool.or_comm, Bool.or_assoc]
  · have gated : s.modNest n (·.toGate st) = s.setNest n ((s.nest n).toGate st) := rfl
    unfold startStep meetGate
    rw [gated]
    cases cls : st.cls with
    | neutral => simp only [enterSettle_setNest]; rfl
    | quiet => rfl
    | loud =>
      have gate : gateOpen (s.setNest n ((s.nest n).toGate st)) =
          decide (s.arbiter.holder = none ∧ (s.arbiter.queue = [] ∨ permitAvailable s = false)) := gateOpen_eq _
      simp only [gate, decide_eq_true_iff]
      split
      · exact enterSettle_setNest (s := passLoud n s) ((s.nest n).toGate st)
      · rfl

/-- A step start leaves its nest in GATE_WAIT with the step's settings, or in SETTLE. -/
theorem startStep_nest (st : Step) : (startStep n st s).nest n = (s.nest n).toGate st ∨
    (startStep n st s).nest n = ((s.nest n).toGate st).toSettle := by
  unfold startStep meetGate
  (repeat' split) <;> simp [enterSettle, joinQuiet, waitLoud, passLoud]

/-- A step start leaves the quiet holder. -/
@[simp] theorem startStep_holder (st : Step) : (startStep n st s).arbiter.holder = s.arbiter.holder := by
  unfold startStep meetGate
  (repeat' split) <;> simp [joinQuiet, waitLoud, passLoud]

/-! ## The start of a unit (R9) -/

/-- The lot after a unit start: a serial is taken where no prior one is given (R141, R143). -/
theorem LotCounters.start_eq (l : LotCounters) (prior : Option Nat) : l.start prior = { l with
    counts := { l.counts with started := l.counts.started.bump }
    nextSerial := if prior = none ∧ l.nextSerial < 99999999 then l.nextSerial + 1 else l.nextSerial
    exhausted := l.exhausted || (prior.isNone && decide (99999999 ≤ l.nextSerial)) } := by
  unfold LotCounters.start LotCounters.takeSerial Config.lastSerial
  cases prior with
  | none =>
    by_cases left : l.nextSerial < 99999999
    · simp [left]
    · simp [left, Nat.le_of_not_lt left]
  | some p => simp

/-- A unit start leaves its nest at its first step (R9, R32). -/
theorem startUnit_nest (plan : Nat) (prior : Option Nat) :
    let x := ((s.nest n).begin (.start (prior.getD s.lot.nextSerial) prior plan)).toGate
      (makeStep s.tables (entrySegment (planAt s.tables plan) 0) 0 false true)
    (startUnit n plan prior s).nest n = x ∨ (startUnit n plan prior s).nest n = x.toSettle := by
  have begun : ((((s.setLot (s.lot.start prior)).modNest n (·.begin (.start (prior.getD s.lot.nextSerial) prior plan))).modRecord n
      fun r => { r with position := .at_ 0 0 }).nest n) = (s.nest n).begin (.start (prior.getD s.lot.nextSerial) prior plan) := by
    simp [State.modRecord, Nest.begin]
    rfl
  dsimp only
  rw [← begun]
  exact startStep_nest _

/-- Settles O18: a unit start is the first step start of a nest with a new Unit Record, which leaves every block but the arbiter's sets. -/
theorem unitStart : Obligations.UnitStart := fun n plan prior s => by
  dsimp only
  have others (m : NestId) (other : m ≠ n) : (startUnit n plan prior s).nest m = s.nest m := by
    rw [startUnit, startAt, (startStep_onlyMoves n _).nest m other]
    simp [State.modRecord, other.symm]
  have holder : (startUnit n plan prior s).arbiter.holder = s.arbiter.holder := by simp [startUnit, startAt]
  have lot : (startUnit n plan prior s).lot = s.lot.start prior := by simp [startUnit]
  obtain ⟨inputs, disposing, permit, bank, store, guard, marker, run, port, conv, tables, pending⟩ := startUnit_frame (s := s) n plan prior
  refine ⟨?_, ?_, ?_, ?_, ?_, ?_, ?_, ?_, ?_, ?_, ?_, others, lot.trans (LotCounters.start_eq _ _), inputs, disposing, holder, permit, bank,
    store, guard, marker, run, port, conv, tables, pending⟩ <;>
  rcases startUnit_nest (s := s) (n := n) plan prior with here | here <;> rw [here]
  case refine_11.inl => exact .inr rfl
  case refine_11.inr => exact .inl rfl
  all_goals rfl

/-! ## SETTLE_END and WINDOW_OPEN (R39, R41) -/

/-- A judge set is empty exactly where it names no mask. -/
theorem judgesNothing_iff {j : JudgeSet} : judgesNothing j = true ↔ j = ⟨none, none, none, none, none⟩ := by
  obtain ⟨response, thd, rub, crest, impedance⟩ := j
  simp [judgesNothing, judgesMic, judges, judgedMask, and_assoc]

/-- Settles O28: the conditions are those of the two events. -/
theorem settleEndAndWindowOpen : Obligations.SettleEndAndWindowOpen := by
  refine ⟨fun n st s settles step lasted => ?_, fun n st s waits step wrapped => ?_⟩
  · have taken : settleEnd n s = some (if st.judge = ⟨none, none, none, none, none⟩ then
        s.setNest n { s.nest n with phase := some .measure, count := 0 }
      else (s.setNest n { s.nest n with phase := some .allocWait }).setBank
        { s.bank with queue := s.bank.queue ++ [(n, (pairList st.judge st.inc.toNat st.hlo st.hhi).length)] }) := by
      by_cases nothing : st.judge = ⟨none, none, none, none, none⟩
      · rw [settleEnd, settles, step, if_pos nothing]
        exact (if_pos lasted).trans (if_pos (judgesNothing_iff.mpr nothing))
      · rw [settleEnd, settles, step, if_neg nothing]
        exact (if_pos lasted).trans (if_neg (mt judgesNothing_iff.mp nothing))
    exact congrArg Host.Outcome.next (happen_some taken)
  · have taken : windowOpen n s = some (watch n st.cls (s.modNest n fun x => { x with phase := some .measure, count := 0 })) := by
      simp only [windowOpen, waits, step, if_pos wrapped]
    exact congrArg Host.Outcome.next (happen_some taken)

/-! ## The moves out of FINISHING (R12) -/

/-- Settles O21: the Retry List decides which of the two moves is taken. -/
theorem finishingMoves : Obligations.FinishingMoves := by
  refine fun n r s finishing record counted => ⟨fun k rest keys => ?_, fun g keys rule => ?_⟩
  · exact congrArg Host.Outcome.next (happen_some (retryStart_some finishing record counted keys))
  · have first : firstRule s.tables.grades.toList r n = some g := rule
    have graded : gradingRule s.tables r n = g := by rw [gradingRule, first]; rfl
    have taken : grading n s = some (joinDisposing n ((s.modRecord n fun r =>
        { r with disposition := some (dispositionOf s.tables (gradingRule s.tables r n)) }).modNest n (·.toDisposing false))) := by
      simp [grading, finishedRecord_iff.mpr ⟨finishing, record, counted⟩, keys]
    refine (congrArg Host.Outcome.next (happen_some taken)).trans (next_settle ?_)
    rw [State.modRecord_some _ record, State.modNest_eq_setNest, State.setNest_setNest, State.setNest_nest_self, graded]
    rfl

/-! ## The stall of a disposal (R15) -/

/-- What a stalled disposal finds unavailable, while no disposal holds a reservation (R179). -/
theorem stallDetail_eq {r : UnitRecord} (free : s.port.reserved = false) : stallDetail s n r =
    if 44 ≤ s.port.results.length then (if needsLabel r = true ∧ 32 ≤ s.marker.labels.length then .both else .resultQueue)
    else if needsLabel r = true ∧ 32 ≤ s.marker.labels.length then .labelQueue else Config.stallWithPlaces n := by
  have results : nonReplyAvailable s.port = !decide (44 ≤ s.port.results.length) := by
    by_cases full : 44 ≤ s.port.results.length
    · simp [nonReplyAvailable, free, Config.nonReplyPlaces, full]
    · simp [nonReplyAvailable, free, Config.nonReplyPlaces, full, Nat.lt_of_not_le full]
  have labels : labelAvailable s.marker = !decide (32 ≤ s.marker.labels.length) := by
    by_cases full : 32 ≤ s.marker.labels.length
    · simp [labelAvailable, Config.labelPlaces, full, Nat.not_lt.mpr full]
    · simp [labelAvailable, Config.labelPlaces, full, Nat.lt_of_not_le full]
  unfold stallDetail
  by_cases full : 44 ≤ s.port.results.length <;> by_cases needs : needsLabel r = true ∧ 32 ≤ s.marker.labels.length <;>
    simp [results, labels, full, needs]

/-- A stall timer that has reached its limit raises the fault (R15). -/
theorem disposalStall_some {r : UnitRecord} {e : Nat} (disposing : (s.nest n).state = .disposing) (record : (s.nest n).record = some r)
    (timer : (s.nest n).stall = some ⟨e, false⟩) (reached : s.tables.config.stallLimit * 1000 * 96 ≤ e) :
    disposalStall n s = some (applyStop .disposalStall (actionOf s.tables.config.actionStall)
      (recordFault .disposalStall (.stall (stallDetail s n r)) (some n) (some r.serial) none none (actionOf s.tables.config.actionStall)
        (s.setNest n { s.nest n with stall := some ⟨e, true⟩ }))) := by
  have due : timerDue (ms (1000 * s.tables.config.stallLimit)) (s.nest n).stall = true := by
    rw [timer]
    exact timerDue_of_le (by rw [ms, Config.framesPerMs, Nat.mul_comm 1000]; exact reached)
  rw [disposalStall, disposing, record]
  refine (if_pos due).trans ?_
  rw [State.modNest_eq_setNest, timer]
  rfl

/-- A stall timer whose expiry has been taken, or that has not reached its limit, raises nothing (R15). -/
theorem disposalStall_none {e : Nat} {taken : Bool} (timer : (s.nest n).stall = some ⟨e, taken⟩)
    (idle : taken = true ∨ e < s.tables.config.stallLimit * 1000 * 96) : disposalStall n s = none := by
  have early : timerDue (ms (1000 * s.tables.config.stallLimit)) (s.nest n).stall = false := by
    rw [timer]
    rcases idle with rfl | before
    · rfl
    · rw [ms, Config.framesPerMs, Nat.mul_comm 1000]
      simp [timerDue, before]
  unfold disposalStall
  split
  · exact if_neg (by rw [early]; nofun)
  · rfl

/-- Settles O24: the timer decides whether the fault is raised, and the action and the mode what it does. -/
theorem disposalStalls : Obligations.DisposalStalls := by
  have needs {r : UnitRecord} : needsLabel r = true ↔ ∃ d k, r.disposition = some d ∧ d.template = some k := by
    simp [needsLabel_iff, Option.isSome_iff_exists]
  refine ⟨fun n r e s disposing record timer reached => ⟨stallDetail s n r, ?_, ?_, ?_, fun idle => ?_, fun stop runs => ?_⟩,
    fun n e taken s timer idle => congrArg Host.Outcome.next (happen_none (disposalStall_none timer idle))⟩
  · intro free full places
    rw [stallDetail_eq free, if_pos full, if_neg fun both => places.elim (· (needs.mp both.1)) (Nat.not_lt.mpr both.2)]
  · intro free room label full
    rw [stallDetail_eq free, if_neg (Nat.not_le.mpr room), if_pos ⟨needs.mpr label, full⟩]
  · intro free full label labels
    rw [stallDetail_eq free, if_pos full, if_pos ⟨needs.mpr label, labels⟩]
  all_goals refine (congrArg Host.Outcome.next (happen_some (disposalStall_some disposing record timer reached))).trans (next_settle ?_)
  · rcases idle with go | idle
    · rw [go, applyStop_continue]
    · exact applyStop_idle _ _ (by rw [recordFault_mode]; exact running_eq_false_iff.mpr idle)
  · rw [stop]
    exact applyStop_running _ (by rw [recordFault_mode]; exact running_iff.mpr runs)

end Sys2Proof.Machine
end

section
/-! PROOFS. The plan walk (R31, R32): the end of a step at each plan position, the entries taken up, and the runs of the block of a REPEAT. -/

namespace Sys2Proof.Machine

open Sys2Proof

variable {s : State} {n : NestId} {r : UnitRecord}

/-! ## The end of a step at each plan position (R31) -/

/-- The entry into FINISHING of a nest with a unit. -/
theorem enterFinishing_eq (record : (s.nest n).record = some r) : enterFinishing n s = s.setNest n { s.nest n with
    state := .finishing, phase := none, step := none, record := some { r with position := .end_ } } := by
  rw [enterFinishing, State.modNest_eq_setNest, State.modRecord_some (q := r) _ (by simp [record]), State.setNest_setNest,
    State.setNest_nest_self]

/-- The start of a step at a plan position of a nest with a unit. -/
theorem startAt_eq (record : (s.nest n).record = some r) (walked : UnitRecord) (e j : Nat) (muted : Bool) :
    startAt n walked e j muted s = startStep n (makeStep s.tables (entrySegment (planAt s.tables walked.plan) e) j false muted)
      (s.setNest n { s.nest n with record := some { r with position := .at_ e j } }) := by
  rw [startAt, State.modRecord_some _ record]

/-- At the end of a retry the walk is at its end. -/
theorem advance_retry {i k : Nat} (record : (s.nest n).record = some r) (retry : r.position = .retry i k) (muted : Bool) :
    advance n muted s = enterFinishing n s := by
  simp [advance, record, retry]

section
variable {e j : Nat} {g : Segment} (record : (s.nest n).record = some r) (at_ : r.position = .at_ e j)
  (segment : segmentAt s.tables (entrySegment (planAt s.tables r.plan) e) = g) (muted : Bool)
include record at_ segment

/-- Within a segment the walk goes to its next step. -/
theorem advance_within (within : j + 1 < g.stepCount) : advance n muted s = startAt n r e (j + 1) muted s := by
  simp [advance, record, at_, segment, within]

/-- After a segment's last step the walk ends where no entry is left. -/
theorem advance_end {stack : List RepeatContext} (last : g.stepCount ≤ j + 1)
    (ended : takeEntry (planAt s.tables r.plan).entries walkFuel r.repeats (e + 1) = (.end_, stack)) :
    advance n muted s = enterFinishing n (s.modRecord n fun r => { r with repeats := stack }) := by
  simp [advance, record, at_, segment, Nat.not_lt.mpr last, ended]

/-- After a segment's last step the walk goes to the entry taken up. -/
theorem advance_next {stack : List RepeatContext} {e' j' : Nat} (last : g.stepCount ≤ j + 1)
    (taken : takeEntry (planAt s.tables r.plan).entries walkFuel r.repeats (e + 1) = (.at_ e' j', stack)) :
    advance n muted s = startAt n r e' j' muted (s.modRecord n fun r => { r with repeats := stack }) := by
  simp [advance, record, at_, segment, Nat.not_lt.mpr last, taken]

end

/-! ## The entries taken up (R31, R32) -/

section
variable {entries : List PlanEntry} {e back count left : Nat} {stack under above : List RepeatContext} (fuel : Nat)

/-- Beyond the plan's entries the walk ends. -/
theorem takeEntry_none (beyond : entries[e]? = none) : takeEntry entries (fuel + 1) stack e = (.end_, stack) := by
  simp [takeEntry, beyond]

/-- A SEGMENT entry is taken at its step 0. -/
theorem takeEntry_segment {i : Nat} (entry : entries[e]? = some (.segment i)) : takeEntry entries (fuel + 1) stack e = (.at_ e 0, stack) := by
  simp [takeEntry, entry]

/-- Of contexts none of which is this entry's, none is found. -/
theorem find?_context_none (others : ∀ c ∈ stack, c.entry ≠ e) : (stack.find? fun c => c.entry == e) = none := by
  simpa using others

/-- A REPEAT entry without a context pushes one and goes back. -/
theorem takeEntry_push (entry : entries[e]? = some (.again back count)) (fresh : ∀ c ∈ stack, c.entry ≠ e) :
    takeEntry entries (fuel + 1) stack e = takeEntry entries fuel (stack ++ [⟨e, count⟩]) (e - back) := by
  simp [takeEntry, entry, find?_context_none fresh]

/-- The one context of an entry is found between the others. -/
theorem find?_context (others : ∀ c ∈ under ++ above, c.entry ≠ e) :
    ((under ++ ⟨e, left⟩ :: above).find? fun c => c.entry == e) = some ⟨e, left⟩ := by
  rw [List.find?_append, find?_context_none fun c mem => others c (List.mem_append_left _ mem)]
  simp

/-- A REPEAT entry with runs left counts its context down and goes back. -/
theorem takeEntry_count (entry : entries[e]? = some (.again back count)) (others : ∀ c ∈ under ++ above, c.entry ≠ e)
    (more : 2 ≤ left) :
    takeEntry entries (fuel + 1) (under ++ ⟨e, left⟩ :: above) e = takeEntry entries fuel (under ++ ⟨e, left - 1⟩ :: above) (e - back) := by
  have same {l : List RepeatContext} (others : ∀ c ∈ l, c.entry ≠ e) :
      (l.map fun d => if d.entry = e then { d with remaining := d.remaining - 1 } else d) = l :=
    (List.map_congr_left fun d mem => if_neg (others d mem)).trans (List.map_id l)
  simp only [takeEntry, entry, find?_context others]
  rw [if_pos (by omega), List.map_append, List.map_cons, same fun c mem => others c (by simp [mem]),
    same fun c mem => others c (by simp [mem]), if_pos rfl]

/-- A REPEAT entry without runs left pops its context and goes on. -/
theorem takeEntry_pop (entry : entries[e]? = some (.again back count)) (others : ∀ c ∈ under ++ above, c.entry ≠ e) :
    takeEntry entries (fuel + 1) (under ++ ⟨e, 1⟩ :: above) e = takeEntry entries fuel (under ++ above) (e + 1) := by
  have same {l : List RepeatContext} (others : ∀ c ∈ l, c.entry ≠ e) : (l.filter fun d => !(d.entry == e)) = l :=
    List.filter_eq_self.mpr fun d mem => by simpa using others d mem
  simp only [takeEntry, entry, find?_context others]
  rw [if_neg (by omega), List.filter_append, List.filter_cons_of_neg (by simp), same fun c mem => others c (by simp [mem]),
    same fun c mem => others c (by simp [mem])]

end

/-! ## The runs of a block (R32) -/

section
variable {pre inner post : List PlanEntry} {segment count : Nat} {outer : List RepeatContext}

/-- A plan with a block that starts with a SEGMENT entry and ends with its REPEAT. -/
def blockPlan (pre inner post : List PlanEntry) (segment count : Nat) : List PlanEntry :=
  pre ++ (.segment segment :: inner) ++ [.again (.segment segment :: inner : List PlanEntry).length count] ++ post

/-- The index of the REPEAT. -/
def repeatIndex (pre inner : List PlanEntry) (segment : Nat) : Nat := pre.length + (.segment segment :: inner : List PlanEntry).length

/-- The walk as it reaches the REPEAT with the contexts of `p`. -/
def endOfBlock (pre inner post : List PlanEntry) (segment count : Nat) (p : PlanPosition × List RepeatContext) :
    PlanPosition × List RepeatContext :=
  takeEntry (blockPlan pre inner post segment count) walkFuel p.2 (repeatIndex pre inner segment)

theorem blockPlan_first : (blockPlan pre inner post segment count)[pre.length]? = some (.segment segment) := by
  simp [blockPlan]

theorem blockPlan_repeat : (blockPlan pre inner post segment count)[repeatIndex pre inner segment]? = some (.again (inner.length + 1) count) := by
  simp [blockPlan, repeatIndex]

theorem blockPlan_after : (blockPlan pre inner post segment count)[repeatIndex pre inner segment + 1]? = post.head? := by
  have length : (pre ++ (.segment segment :: inner) ++ [PlanEntry.again (.segment segment :: inner : List PlanEntry).length count]).length =
      repeatIndex pre inner segment + 1 := by simp [repeatIndex]; omega
  rw [blockPlan, List.getElem?_append_right length.le, length, Nat.sub_self, List.head?_eq_getElem?]

theorem repeatIndex_back : repeatIndex pre inner segment - (inner.length + 1) = pre.length := by
  simp [repeatIndex]

variable (fresh : ∀ c ∈ outer, c.entry ≠ repeatIndex pre inner segment)
include fresh

/-- The walk that reaches the REPEAT for the first time pushes a context and goes back to the block's first entry. -/
theorem endOfBlock_first (p : PlanPosition) : endOfBlock pre inner post segment count (p, outer) =
    (.at_ pre.length 0, outer ++ [⟨repeatIndex pre inner segment, count⟩]) := by
  rw [endOfBlock, walkFuel, takeEntry_push _ blockPlan_repeat fresh, repeatIndex_back, takeEntry_segment _ blockPlan_first]

/-- The walk that reaches the REPEAT with runs left goes back to the block's first entry. -/
theorem endOfBlock_again (p : PlanPosition) {left : Nat} (more : 2 ≤ left) :
    endOfBlock pre inner post segment count (p, outer ++ [⟨repeatIndex pre inner segment, left⟩]) =
      (.at_ pre.length 0, outer ++ [⟨repeatIndex pre inner segment, left - 1⟩]) := by
  rw [endOfBlock, walkFuel, takeEntry_count _ blockPlan_repeat (by simpa using fresh) more, repeatIndex_back,
    takeEntry_segment _ blockPlan_first]

/-- The walk that reaches the REPEAT without runs left goes on past it, with the contexts as they were. -/
theorem endOfBlock_last (p : PlanPosition) : endOfBlock pre inner post segment count (p, outer ++ [⟨repeatIndex pre inner segment, 1⟩]) =
    takeEntry (blockPlan pre inner post segment count) 63 outer (repeatIndex pre inner segment + 1) := by
  rw [endOfBlock, walkFuel, takeEntry_pop _ blockPlan_repeat (by simpa using fresh), List.append_nil]

/-- N times the walk returns to the block's first entry. -/
theorem endOfBlock_iterate : ∀ k, k < count → (endOfBlock pre inner post segment count)^[k + 1] (.at_ pre.length 0, outer) =
    (.at_ pre.length 0, outer ++ [⟨repeatIndex pre inner segment, count - k⟩])
  | 0, _ => endOfBlock_first fresh _
  | k + 1, below => by
    rw [Function.iterate_succ_apply', endOfBlock_iterate k (by omega), endOfBlock_again fresh _ (by omega)]
    rfl

/-- The next time it goes on past the REPEAT. -/
theorem endOfBlock_iterate_last (runs : 1 ≤ count) : (endOfBlock pre inner post segment count)^[count + 1] (.at_ pre.length 0, outer) =
    takeEntry (blockPlan pre inner post segment count) 63 outer (repeatIndex pre inner segment + 1) := by
  obtain ⟨k, rfl⟩ := Nat.exists_eq_add_of_le' runs
  rw [Function.iterate_succ_apply', endOfBlock_iterate fresh k (by omega), Nat.add_sub_cancel_left, endOfBlock_last fresh]

end

/-- Settles O27: the walk's advance and the taking up of an entry case by case, and the runs of a block by induction on the runs made. -/
theorem planWalk : Obligations.PlanWalk := by
  refine ⟨fun n muted r s record => ⟨fun i k retry => ?_, fun e j i g at_ entry defined => ?_⟩, fun entries fuel e stack =>
    ⟨takeEntry_none fuel, fun i => takeEntry_segment fuel, fun back count entry => ⟨takeEntry_push fuel entry, ?_⟩⟩,
    fun pre inner post segment count outer runs fresh => ⟨endOfBlock_iterate fresh, fun next more => ?_, fun ended => ?_⟩⟩
  · rw [advance_retry record retry, enterFinishing_eq record]
  · have segment : segmentAt s.tables (entrySegment (planAt s.tables r.plan) e) = g := by
      rw [entrySegment, entry]
      exact segmentAt_of_defined defined
    have walked (stack : List RepeatContext) := State.modRecord_some (s := s) (fun r => { r with repeats := stack }) record
    refine ⟨fun within => ?_, fun last stack ended => ?_, fun last stack e' taken => ?_⟩
    · rw [advance_within record at_ segment muted within, startAt_eq record]
    · rw [advance_end record at_ segment muted last ended, walked, enterFinishing_eq (r := { r with repeats := stack }) (by simp),
        State.setNest_setNest, State.setNest_nest_self]
    · rw [advance_next record at_ segment muted last taken, walked, startAt_eq (r := { r with repeats := stack }) (by simp),
        State.setNest_setNest, State.setNest_nest_self]
      rfl
  · rintro under above left rfl others
    exact ⟨takeEntry_count fuel entry others, fun last => last ▸ takeEntry_pop fuel entry others⟩
  · exact (endOfBlock_iterate_last fresh runs).trans (takeEntry_segment _ (blockPlan_after.trans more))
  · exact (endOfBlock_iterate_last fresh runs).trans (takeEntry_none _ (blockPlan_after.trans (by rw [ended]; rfl)))

end Sys2Proof.Machine
end

section
/-! PROOFS. A frame of a nest's synthesiser (R34 to R37), the decisions of the Quiet Arbiter (R49, R51), the grants of pairs (R63, R64, R67) and the
ends of steps and windows (R42, R44, R73, R76, R78). -/

namespace Sys2Proof.Machine

open Sys2Proof

variable {s t : State} {n : NestId}

/-! ## The synthesiser (R34 to R37) -/

/-- A sample of amplitude 0 is 0. -/
@[simp] theorem sineOf_zero (θ : Nat) : sineOf 0 θ = 0 := by
  have none_ : 2 ^ (sineBits - 1) / 2 ^ sineBits = 0 := Nat.div_eq_of_lt (by decide)
  simp only [sineOf, Nat.zero_mul, Nat.zero_add, none_]
  split <;> rfl

/-- Outside TESTING a nest plays no drive (R37). -/
theorem frameAmplitude_of_not_testing {x : Nest} (other : x.state ≠ .testing) : frameAmplitude x = 0 := by
  unfold frameAmplitude
  split
  · next testing _ _ => exact absurd testing other
  · next testing _ => exact absurd testing other
  · next testing _ _ => exact absurd testing other
  · rfl

/-- The amplitude in TESTING, by the phase of the step (R36). -/
theorem frameAmplitude_of_testing {x : Nest} {st : Step} (testing : x.state = .testing) (step : x.step = some st) :
    (x.phase = some .settle → x.count < st.ramp → frameAmplitude x =
      (x.synth.rampStart + roundDiv (((st.target : Int) - x.synth.rampStart) * (x.count + 1)) st.ramp).toNat) ∧
    (x.phase = some .settle → st.ramp ≤ x.count → frameAmplitude x = st.target) ∧
    (x.phase = some .allocWait ∨ x.phase = some .openWait ∨ x.phase = some .measure ∨ x.phase = some .closeWait →
      frameAmplitude x = st.target) := by
  refine ⟨fun settle ramp => ?_, fun settle full => ?_, fun later => ?_⟩
  · simp [frameAmplitude, testing, step, settle, ramp]
  · simp [frameAmplitude, testing, step, settle, full]
  · rcases later with phase | phase | phase | phase <;> simp [frameAmplitude, testing, step, phase]

/-- In GATE_WAIT the drive is muted (R36). -/
theorem frameAmplitude_gateWait {x : Nest} (waits : x.phase = some .gateWait) : frameAmplitude x = 0 := by
  by_cases testing : x.state = .testing
  · simp [frameAmplitude, testing, waits]
  · exact frameAmplitude_of_not_testing testing

/-- The synthesiser's amplitude after the frame is that of the frame. -/
theorem advanceSynth_amplitude (x : Nest) : x.advanceSynth.amplitude = frameAmplitude x := by
  unfold Nest.advanceSynth
  split
  · rfl
  · next other => exact (frameAmplitude_of_not_testing other).symm

/-- The frame of a step is counted in SETTLE and in MEASURE. -/
theorem frameCount_eq (x : Nest) : frameCount x = if x.phase = some .settle ∨ x.phase = some .measure then x.count + 1 else x.count := by
  unfold frameCount
  split
  · next settle => rw [if_pos (.inl settle)]
  · next measure => rw [if_pos (.inr measure)]
  · next noSettle noMeasure => rw [if_neg fun counted => counted.elim noSettle noMeasure]

/-- A frame leaves a nest's lifecycle, place and step, counts itself, and advances the synthesiser. -/
theorem Nest.frame_eq (x : Nest) (mic cur : Sample) (marked : Bool) (number : Nat) :
    let y := x.frame mic cur marked number
    y.state = x.state ∧ y.phase = x.phase ∧ y.step = x.step ∧ y.record = x.record ∧ y.count = frameCount x ∧ y.synth = x.advanceSynth := by
  unfold Nest.frame
  split <;> exact ⟨rfl, rfl, rfl, rfl, rfl, rfl⟩

/-- The drive slot of a nest after the frame (R35). -/
theorem runFrame_drive (f : InFrame) (timed : Bool) (s : State) (n : NestId) :
    (runFrame f timed s).conv.drive[n] = sineOf (frameAmplitude (s.nest n)) (s.nest n).synth.phase.toNat := by
  fin_cases n <;> rfl

/-- Settles O29: the frame of the nest, its drive slot, and its amplitude by state and phase. -/
theorem toneFrame : Obligations.ToneFrame := fun n f timed s => by
  dsimp only
  rw [runFrame_nest, nestFrame, runFrame_drive]
  obtain ⟨state, phase, step, record, count, synth⟩ :=
    (s.nest n).frame_eq f.mic[n].sample f.cur[n].sample (f.mic[n].overload || timed) s.conv.frameNumber
  simp only [state, phase, step, record, count, synth, advanceSynth_amplitude, frameCount_eq]
  refine ⟨trivial, trivial, trivial, trivial, ?_, trivial, trivial, fun other => ?_, fun testing => ?_⟩
  · unfold Nest.advanceSynth
    split <;> rfl
  · simp [Nest.advanceSynth, other, frameAmplitude_of_not_testing other]
  · refine ⟨by simp [Nest.advanceSynth, testing], by simp [Nest.advanceSynth, testing],
      fun waits => by simp [frameAmplitude_gateWait waits], fun st held => frameAmplitude_of_testing testing held⟩

/-! ## The Quiet Arbiter (R49, R51) -/

/-- The loud-past set is empty exactly as the vector of no nest. -/
theorem loudPastEmpty_iff {a : Arbiter} : loudPastEmpty a = true ↔ a.loudPast = Vector.replicate 4 false := by
  constructor
  · intro empty
    apply Vector.ext
    intro i hi
    have := List.all_eq_true.mp empty ⟨i, hi⟩ (by unfold nestIds; interval_cases i <;> simp)
    simpa using this
  · intro empty
    simp [loudPastEmpty, empty, nestIds]

theorem permitAvailable_iff : permitAvailable s = true ↔ role s = .solo ∨ s.permit.held = true := by
  simp [permitAvailable]

/-- The head of the Quiet Request Queue is granted quiet under the three conditions, and not otherwise (R49). -/
theorem quietGrant_eq {rest : List NestId} (queue : s.arbiter.queue = n :: rest) : quietGrant s =
    if s.arbiter.holder = none ∧ (role s = .solo ∨ s.permit.held = true) ∧ s.arbiter.loudPast = Vector.replicate 4 false then
      some ((s.setArbiter { s.arbiter with queue := rest, holder := some n }).setNest n (s.nest n).toSettle)
    else none := by
  have granted : (s.arbiter.holder.isNone && permitAvailable s && loudPastEmpty s.arbiter) = true ↔
      s.arbiter.holder = none ∧ (role s = .solo ∨ s.permit.held = true) ∧ s.arbiter.loudPast = Vector.replicate 4 false := by
    rw [Bool.and_eq_true, Bool.and_eq_true, Option.isNone_iff_eq_none, permitAvailable_iff, loudPastEmpty_iff, and_assoc]
  rw [quietGrant, queue]
  simp only [granted]
  rfl

/-- The nests of a list pass the loud gate: those of the loud-wait set move to the loud-past set and enter SETTLE. -/
def passLoudWait (l : List NestId) (s : State) : State :=
  (s.setArbiter { s.arbiter with
    loudPast := Vector.ofFn fun m : Fin 4 => s.arbiter.loudPast[m] || (decide (m ∈ l) && s.arbiter.loudWait[m])
    loudWait := Vector.ofFn fun m : Fin 4 => !decide (m ∈ l) && s.arbiter.loudWait[m] }).setNests
  (Vector.ofFn fun m : Fin 4 => if m ∈ l ∧ s.arbiter.loudWait[m] = true then (s.nest m).toSettle else s.nest m)

/-- Two passes are the same where the loud-past set, the loud-wait set and the nests they leave are. -/
theorem passLoudWait_congr {l l' : List NestId} (arbiter : ∀ a b, ({ t.arbiter with loudPast := a, loudWait := b } : Arbiter) =
    { s.arbiter with loudPast := a, loudWait := b }) (rest : ∀ a v, (t.setArbiter a).setNests v = (s.setArbiter a).setNests v)
    (past : ∀ m : NestId, (t.arbiter.loudPast[m] || (decide (m ∈ l) && t.arbiter.loudWait[m])) =
      (s.arbiter.loudPast[m] || (decide (m ∈ l') && s.arbiter.loudWait[m])))
    (wait : ∀ m : NestId, (!decide (m ∈ l) && t.arbiter.loudWait[m]) = (!decide (m ∈ l') && s.arbiter.loudWait[m]))
    (nests : ∀ m : NestId, (if m ∈ l ∧ t.arbiter.loudWait[m] = true then (t.nest m).toSettle else t.nest m) =
      if m ∈ l' ∧ s.arbiter.loudWait[m] = true then (s.nest m).toSettle else s.nest m) : passLoudWait l t = passLoudWait l' s := by
  simp only [passLoudWait, funext past, funext wait, funext nests, arbiter, rest]

theorem passLoudWait_nil (s : State) : passLoudWait [] s = s := by
  have past : (Vector.ofFn fun m : Fin 4 => s.arbiter.loudPast[m]) = s.arbiter.loudPast := by ext; simp
  have wait : (Vector.ofFn fun m : Fin 4 => s.arbiter.loudWait[m]) = s.arbiter.loudWait := by ext; simp
  have nests : (Vector.ofFn fun m : Fin 4 => s.nest m) = s.nests := Vector.ext fun _ _ => by simp [State.nest]
  simp only [passLoudWait, List.not_mem_nil, decide_false, Bool.false_and, Bool.or_false, Bool.not_false, Bool.true_and, false_and,
    if_false, past, wait, nests]
  rfl

theorem passLoudWait_cons (n : NestId) (l : List NestId) (s : State) : passLoudWait l (passIfWaiting s n) = passLoudWait (n :: l) s := by
  unfold passIfWaiting
  split
  · next waits =>
    have past (m : NestId) : (enterSettle n (passLoud n s)).arbiter.loudPast[m] = (decide (n = m) || s.arbiter.loudPast[m]) := by
      by_cases same : n = m <;> simp [passLoud, enterSettle, Fin.val_inj, same]
    have wait (m : NestId) : (enterSettle n (passLoud n s)).arbiter.loudWait[m] = (!decide (n = m) && s.arbiter.loudWait[m]) := by
      by_cases same : n = m <;> simp [passLoud, enterSettle, Fin.val_inj, same]
    have nest (m : NestId) : (enterSettle n (passLoud n s)).nest m = if n = m then (s.nest m).toSettle else s.nest m :=
      State.modNest_nest (s := passLoud n s) n m
    refine passLoudWait_congr (fun _ _ => rfl) (fun _ _ => rfl) (fun m => ?_) (fun m => ?_) (fun m => ?_) <;>
    · simp only [past, wait, nest, List.mem_cons, eq_comm (a := m)]
      by_cases same : n = m
      · simp [same, same ▸ waits]
      · simp [same]
  · next stays =>
    have out {m : NestId} (same : m = n) : s.arbiter.loudWait[m] = false := by rw [same]; exact Bool.eq_false_iff.mpr stays
    refine passLoudWait_congr (fun _ _ => rfl) (fun _ _ => rfl) (fun m => ?_) (fun m => ?_) (fun m => ?_) <;>
    · by_cases same : m = n
      · simp [out same]
      · simp [same]

/-- The nests pass in order as they pass together. -/
theorem foldl_passIfWaiting : ∀ (l : List NestId) (s : State), l.foldl passIfWaiting s = passLoudWait l s
  | [], s => (passLoudWait_nil s).symm
  | n :: l, s => (foldl_passIfWaiting l (passIfWaiting s n)).trans (passLoudWait_cons n l s)

/-- Settles O30: the grant's conditions written out, and the four nests passing the open gate together. -/
theorem quietArbiterDecisions : Obligations.QuietArbiterDecisions := by
  refine ⟨fun n rest s queue => ⟨fun granted => ?_, fun refused => ?_⟩, fun s free shut waits => ?_⟩
  · exact congrArg Host.Outcome.next (happen_some ((quietGrant_eq queue).trans (if_pos granted)))
  · exact congrArg Host.Outcome.next (happen_none ((quietGrant_eq queue).trans (if_neg refused)))
  · have all (m : NestId) : m ∈ nestIds := by fin_cases m <;> simp [nestIds]
    obtain ⟨m, waiting⟩ := waits
    have passes : loudGatePass s = some (passLoudWait nestIds s) := by
      rw [loudGatePass, gateOpen_eq, foldl_passIfWaiting]
      exact if_pos (by simpa [free, shut] using ⟨m, all m, waiting⟩)
    refine (congrArg Host.Outcome.next (happen_some passes)).trans (next_settle ?_)
    have past : (Vector.ofFn fun m : Fin 4 => s.arbiter.loudPast[m] || s.arbiter.loudWait[m]) =
        Vector.zipWith (· || ·) s.arbiter.loudPast s.arbiter.loudWait := by ext; simp
    have wait : (Vector.ofFn fun _ : Fin 4 => false) = Vector.replicate 4 false := by ext; simp
    simp only [passLoudWait, all, decide_true, Bool.true_and, Bool.not_true, Bool.false_and, true_and, past, wait]
    rfl

/-! ## Pairs (R63, R64, R67) -/

/-- The numbers up to `hi` from `lo` on. -/
theorem filter_range_le (lo hi : Nat) : (List.range hi).filter (fun h => decide (lo ≤ h)) = List.range' lo (hi - lo) := by
  rcases Nat.le_total lo hi with below | above
  · obtain ⟨k, rfl⟩ := Nat.exists_eq_add_of_le below
    have low : (List.range lo).filter (fun h => decide (lo ≤ h)) = [] := List.filter_eq_nil_iff.mpr fun h mem => by
      simpa using List.mem_range.mp mem
    have high : (List.range' lo k).filter (fun h => decide (lo ≤ h)) = List.range' lo k := List.filter_eq_self.mpr fun h mem => by
      simpa using (List.mem_range'_1.mp mem).1
    have split_ : List.range (lo + k) = List.range lo ++ List.range' lo k := by
      rw [List.range_eq_range', List.range_eq_range', ← List.range'_append_1, Nat.zero_add]
    rw [split_, List.filter_append, low, high, List.nil_append, Nat.add_sub_cancel_left]
  · rw [Nat.sub_eq_zero_of_le above]
    exact List.filter_eq_nil_iff.mpr fun h mem => by simpa using (List.mem_range.mp mem).trans_le above

/-- Settles O34: the pair list's four parts, and the grant at the head of the Allocation Queue. -/
theorem pairGrants : Obligations.PairGrants := by
  refine ⟨fun j inc lo hi => ?_, fun n k rest st s queue step => ⟨fun enough => ?_, fun short => ?_⟩⟩
  · have mic : judgesMic j = true ↔ j.response.isSome = true ∨ j.thd.isSome = true ∨ j.rub.isSome = true ∨ j.crest.isSome = true := by
      simp [judgesMic, judges, judgedMask, or_assoc]
    have rub : (List.range (hi + 1)).filter (fun h => decide (lo ≤ h) && validHarmonic inc h) =
        (List.range' lo (hi + 1 - lo)).filter (validHarmonic inc) := by
      rw [← filter_range_le, List.filter_filter]
      simp only [Bool.and_comm]
    simp only [pairList, mic, rub]
    rfl
  · have taken : pairGrant s = some (if st.trim = true then grantPairs n k rest st s else watch n st.cls (grantPairs n k rest st s)) := by
      simp only [pairGrant, queue, if_pos enough, step]
      rfl
    exact (congrArg Host.Outcome.next (happen_some taken)).trans (next_settle rfl)
  · have waits : pairGrant s = none := by rw [pairGrant, queue]; exact if_neg (Nat.not_le.mpr short)
    exact congrArg Host.Outcome.next (happen_none waits)

/-! ## The ends of steps and windows (R42, R44, R73, R76, R78) -/

/-- A record comes after every record whose last frame is at or before its own (R78). -/
theorem insertHold_between {w : WindowRecord} {b : List WindowRecord} (later : ∀ v ∈ b, w.lastFrame < v.lastFrame) :
    ∀ a : List WindowRecord, (∀ v ∈ a, v.lastFrame ≤ w.lastFrame) → insertHold w (a ++ b) = a ++ w :: b
  | [], _ => by
    cases b with
    | nil => rfl
    | cons v rest => exact if_neg (Nat.not_le.mpr (later v List.mem_cons_self))
  | v :: a, earlier => by
    rw [List.cons_append, insertHold, if_pos (earlier v List.mem_cons_self),
      insertHold_between later a fun u mem => earlier u (List.mem_cons_of_mem v mem)]
    rfl

/-- The pairs of a nest just replaced return to the bank (R68). -/
theorem returnPairs_setNest {y : Nest} : returnPairs n (s.setNest n y) =
    (s.setBank { s.bank with free := s.bank.free + y.pairs.length }).setNest n { y with pairs := [] } := by
  simp only [returnPairs, State.modNest_eq_setNest, State.setNest_nest_self, State.setBank_nest, State.setNest_bank]
  exact State.setNest_setNest (s := s.setBank { s.bank with free := s.bank.free + y.pairs.length }) n (x := y)

/-- Settles O36: the conditions of the three events, and the effect of a window close read from its parts. -/
theorem stepEnds : Obligations.StepEnds := by
  refine ⟨⟨fun n st s measure step judged counted wrapped => ?_, fun n rest s waits free => ?_, fun n st s measure step nothing counted => ?_⟩,
    fun n r st s record step => ⟨fun a b earlier later => insertHold_between later a earlier, ?_⟩⟩
  · have ended : (!judgesNothing st.judge && windowEnded (s.nest n) st) = true := by
      have some_ : judgesNothing st.judge = false := Bool.eq_false_iff.mpr (mt judgesNothing_iff.mp judged)
      cases trim : st.trim <;> simp [some_, windowEnded, counted, trim]
      exact wrapped trim
    have taken : lastWindowFrame n s = some (if 0 < s.store.free ∧ s.store.closeWait = [] then closeWindow n s else joinCloseWait n s) := by
      rw [lastWindowFrame, measure, step]
      refine (if_pos ended).trans ?_
      by_cases free : 0 < s.store.free ∧ s.store.closeWait = []
      · rw [if_pos free]
        exact if_pos (by simpa using free)
      · rw [if_neg free]
        exact if_neg (by simpa using free)
    exact (congrArg Host.Outcome.next (happen_some taken)).trans (next_settle rfl)
  · have taken : windowClose s = some (closeWindow n s) := by rw [windowClose, waits]; exact if_pos free
    exact congrArg Host.Outcome.next (happen_some taken)
  · have taken : windowlessStepEnd n s = some (endStep n false s) := by
      rw [windowlessStepEnd, measure, step]
      exact if_pos (by simp [judgesNothing_iff.mpr nothing, counted])
    exact congrArg Host.Outcome.next (happen_some taken)
  · have closed : closeWindow n s = endStep n false ((unwatch n (s.setStore (s.store.takeRecord n (windowRecord s n r st)))).modRecord n
        fun r => { r with pending := r.pending + 1 }) := by rw [closeWindow, record, step]
    have held : ((unwatch n (s.setStore (s.store.takeRecord n (windowRecord s n r st)))).nest n).record = some r := record
    rw [closed, State.modRecord_some _ held, endStep, returnPairs_setNest]
    rfl

end Sys2Proof.Machine
end

section
/-! PROOFS. The Guard Monitor (R85 to R93): its frame, the advance of a stream and the end of a block, with the taint of the windows of a stream and
the release of records; and the findings of a record (R107, R115 to R118). -/

namespace Sys2Proof.Machine

open Sys2Proof

variable {s t : State}

/-! ## Frames and streams (R85, R88) -/

/-- Settles O37: the frame of an active and of an inactive Guard Monitor. -/
theorem guardFrame_holds : Obligations.GuardFrame := fun f timed s => by
  refine ⟨fun idle => ?_, fun runs => ?_⟩
  · exact if_neg (Bool.eq_false_iff.mp (running_eq_false_iff.mpr idle))
  · exact if_pos (running_iff.mpr runs)

/-- Settles O38: whether the block exceeds, whether the run is declared, and how long it has lasted. -/
theorem streamAdvance : Obligations.StreamAdvance := by
  refine fun x d k least => ⟨rfl, fun declared => ?_, fun fresh start => ?_, fun first fresh going since => ⟨fun short => ?_, fun long => ?_⟩⟩
  · simp [Stream.advance, declared]
  · have at_one : d ≤ 1 ↔ d = 1 := by omega
    simp only [Stream.advance, fresh, start, Nat.zero_add, at_one, if_true, Bool.not_true, Bool.false_eq_true, if_false]
    split
    · next one => rw [one]
    · rfl
  · simp [Stream.advance, fresh, since, Nat.ne_of_gt going, Nat.not_le.mpr short]
  · simp [Stream.advance, fresh, since, Nat.ne_of_gt going, long]

/-! ## The end of a block (R85) -/

/-- A run declared at a block end has a first block. -/
theorem Stream.advance_declared {x : Stream} {d k : Nat} {exceeds : Bool} (declared : (x.advance d k exceeds).2.2 = true) :
    ∃ first, (x.advance d k exceeds).1.first = some first := by
  revert declared
  unfold Stream.advance
  dsimp only
  (repeat' split) <;> simp

/-- The event of a run declared at a block end, as the port receives it (R89). -/
def raisedAt (b : Nat) (id : StreamId) (x : Stream × Option Nat × Bool) (level : Int) (overloaded : Bool) (p : Port) : Port :=
  if x.2.2 then p.handOver (.guardExceeded id (x.1.first.getD 0) (x.1.first.getD 0 * b) level overloaded) else p

theorem raiseExceeded_advance (b d k : Nat) (id : StreamId) (x : Stream) (exceeds : Bool) (level : Int) (overloaded : Bool) (s : State) :
    raiseExceeded b id (x.advance d k exceeds).1 (x.advance d k exceeds).2.2 level overloaded s =
      s.setPort (raisedAt b id (x.advance d k exceeds) level overloaded s.port) := by
  unfold raiseExceeded raisedAt
  cases declared : (x.advance d k exceeds).2.2 with
  | false => rfl
  | true =>
    obtain ⟨first, since⟩ := Stream.advance_declared declared
    rw [since]
    rfl

/-- The declared blocks of a stream overlap the frames from `first` to `last`. -/
def declaredOver (b k : Nat) (declared : Option Nat) (first last : Nat) : Bool :=
  match declared with
  | some a => overlaps b a k first last
  | none => false

/-- A record of Guard Hold after the declared blocks of a stream (R91). -/
def WindowRecord.declareFrom (b k : Nat) (id : StreamId) (declared : Option Nat) (w : WindowRecord) : WindowRecord :=
  if streamOf w.cls = id ∧ w.taint = .none ∧ declaredOver b k declared (w.lastFrame + 1 - w.mEff) w.lastFrame = true then
    { w with taint := .ambient }
  else w

/-- A watch entry after the declared blocks of a stream (R91). -/
def WatchEntry.declareFrom (b k : Nat) (id : StreamId) (declared : Option Nat) (e : WatchEntry) : WatchEntry :=
  match e.latest with
  | some last => if e.stream = id ∧ declaredOver b k declared e.first last = true then { e with mark := true } else e
  | none => e

/-- The taint of the blocks that a stream declares, if any (R91). -/
theorem declareBlocks_eq (b k : Nat) (id : StreamId) (declared : Option Nat) (s : State) : declareBlocks b k id declared s =
    (s.setStore { s.store with guardHold := s.store.guardHold.map (WindowRecord.declareFrom b k id declared) }).setGuard
      { s.guard with watch := s.guard.watch.map (WatchEntry.declareFrom b k id declared) } := by
  cases declared with
  | none =>
    have holds : WindowRecord.declareFrom b k id none = fun w => w := by
      funext w; exact if_neg fun hit => by simp [declaredOver] at hit
    have watches : WatchEntry.declareFrom b k id none = fun e => e := by
      funext e
      unfold WatchEntry.declareFrom
      split
      · exact if_neg fun hit => by simp [declaredOver] at hit
      · rfl
    rw [holds, watches, List.map_id', List.map_id']
    rfl
  | some a =>
    have holds : WindowRecord.declareFrom b k id (some a) = WindowRecord.declare b a k id := by
      funext w
      exact if_congr (by simp [declaredOver, and_assoc]) rfl rfl
    have watches : WatchEntry.declareFrom b k id (some a) = WatchEntry.declare b a k id := by
      funext e
      unfold WatchEntry.declareFrom WatchEntry.declare
      cases e.latest with
      | none => rfl
      | some last => exact if_congr (by simp [declaredOver]) rfl rfl
    rw [holds, watches]
    rfl

/-- The declared blocks of the stream `id`. -/
def declaredOf (normal quiet : Option Nat) (id : StreamId) : Option Nat := if id = .quiet then quiet else normal

/-- A record takes the taint of the blocks that its own stream declares. -/
theorem declareFrom_both (b k : Nat) (normal quiet : Option Nat) (w : WindowRecord) :
    (w.declareFrom b k .normal normal).declareFrom b k .quiet quiet =
      if w.taint = .none ∧ declaredOver b k (declaredOf normal quiet (if w.cls = .quiet then .quiet else .normal))
          (w.lastFrame + 1 - w.mEff) w.lastFrame = true then
        { w with taint := .ambient }
      else w := by
  have streams : streamOf w.cls = if w.cls = .quiet then .quiet else .normal := by cases w.cls <;> rfl
  rw [← streams]
  have other {id : StreamId} {declared : Option Nat} {v : WindowRecord} (differs : streamOf v.cls ≠ id) : v.declareFrom b k id declared = v :=
    if_neg fun hit => differs hit.1
  have cls : (w.declareFrom b k .normal normal).cls = w.cls := by unfold WindowRecord.declareFrom; split <;> rfl
  cases stream : streamOf w.cls with
  | normal =>
    rw [other (by rw [cls, stream]; nofun)]
    exact if_congr (by simp [stream, declaredOf]) rfl rfl
  | quiet =>
    rw [other (id := .normal) (by rw [stream]; nofun)]
    exact if_congr (by simp [stream, declaredOf]) rfl rfl

/-- A watch entry takes the mark of the blocks that its own stream declares. -/
theorem watch_declareFrom_both (b k : Nat) (normal quiet : Option Nat) (e : WatchEntry) :
    (e.declareFrom b k .normal normal).declareFrom b k .quiet quiet =
      match e.latest with
      | some last => if declaredOver b k (declaredOf normal quiet e.stream) e.first last = true then { e with mark := true } else e
      | none => e := by
  have other {id : StreamId} {declared : Option Nat} {v : WatchEntry} (differs : v.stream ≠ id) : v.declareFrom b k id declared = v := by
    unfold WatchEntry.declareFrom
    split
    · exact if_neg fun hit => differs hit.1
    · rfl
  have own (id : StreamId) (declared : Option Nat) (same : e.stream = id) : e.declareFrom b k id declared =
      match e.latest with
      | some last => if declaredOver b k declared e.first last = true then { e with mark := true } else e
      | none => e := by
    simp only [WatchEntry.declareFrom, same, true_and]
  have stays : (e.declareFrom b k .normal normal).stream = e.stream := by
    unfold WatchEntry.declareFrom
    (repeat' split) <;> rfl
  obtain stream | stream : e.stream = .normal ∨ e.stream = .quiet := by cases e.stream <;> simp
  · have declared : declaredOf normal quiet e.stream = normal := if_neg (by rw [stream]; nofun)
    rw [declared, other (by rw [stays, stream]; nofun), own _ _ stream]
  · have declared : declaredOf normal quiet e.stream = quiet := if_pos stream
    rw [declared, other (id := .normal) (by rw [stream]; nofun), own _ _ stream]

/-- Settles O39: the parts of the block end in their order. -/
theorem guardBlockEnds : Obligations.GuardBlockEnds := fun k s due => by
  have taken : guardBlockEnd s = some (endGuardBlock k s) := by rw [guardBlockEnd, due]
  refine (congrArg Host.Outcome.next (happen_some taken)).trans (next_settle ?_)
  unfold endGuardBlock
  dsimp only
  rw [raiseExceeded_advance, raiseExceeded_advance, declareBlocks_eq, declareBlocks_eq]
  unfold guardLevel blockExceeds blockLength
  generalize roundLog _ _ = level
  generalize Stream.advance s.guard.normal _ _ _ = normal
  generalize Stream.advance s.guard.quiet _ _ _ = quiet
  simp only [State.setStore_store, State.setGuard_guard, State.setGuard_store, State.setPort_store, State.setPort_guard,
    List.map_map, Function.comp_def, declareFrom_both, watch_declareFrom_both]
  generalize 96 * 2 ^ s.tables.config.guardExponent = b
  simp only [State.setStore, State.setGuard, State.setPort, State.mk.injEq, true_and]
  refine ⟨?_, ?_, ?_⟩
  · simp only [Store.release, declaredOver, declaredOf, overlaps]
    rfl
  · simp only [Guard.endBlock, declaredOver, declaredOf, overlaps]
    rfl
  · exact ⟨rfl, trivial⟩

/-! ## The findings of a record (R107, R115 to R118) -/

/-- The finding of a judged figure, written out. -/
theorem figureFinding_eq (x : Tables) (w : WindowRecord) (f : Figure) (m : Nat) : figureFinding x w f m =
    if f ≠ .impedance ∧ amplitudeLevel (fundamentalOf w .mic) w.mEff < x.config.silenceFloor then noResponseFinding w f
    else judgedFinding w f (maskAt x m) (figureValue w (calibrationAt x w.nest) x.config.currentFloor f) := by
  unfold figureFinding silent
  exact if_congr (by simp) rfl rfl

/-- The findings of a list of figures, one after another. -/
theorem filterMap_figures (g : Figure → Option Finding) :
    allFigures.filterMap g = (g .response).toList ++ (g .thd).toList ++ (g .rub).toList ++ (g .crest).toList ++ (g .impedance).toList := by
  simp [allFigures, List.filterMap_eq_flatMap_toList]

/-- Settles O44: a tainted record has one finding, and an untainted one those of its judged figures in order. -/
theorem findingsOfRecord : Obligations.FindingsOfRecord := by
  refine fun x w => ⟨fun ambient => ?_, fun overload => ?_, ?_⟩
  · rw [recordFindings, ambient]; rfl
  · rw [recordFindings, overload]; rfl
  · rintro clean _ rfl
    have judged (f : Figure) : ((judgedMask w.judge f).map (figureFinding x w f)).toList = match judgedMask w.judge f with
      | none => []
      | some m =>
        if f ≠ .impedance ∧ amplitudeLevel (fundamentalOf w .mic) w.mEff < x.config.silenceFloor then [noResponseFinding w f]
        else [judgedFinding w f (maskAt x m) (figureValue w (calibrationAt x w.nest) x.config.currentFloor f)] := by
      cases judgedMask w.judge f with
      | none => rfl
      | some m =>
        simp only [Option.map_some, Option.toList_some, figureFinding_eq]
        split <;> rfl
    rw [recordFindings, clean]
    dsimp only
    rw [filterMap_figures]
    simp only [judged]
    rfl

end Sys2Proof.Machine
end

section
/-! PROOFS. The start and the leaving of a run (R61, R84, R148, R151, R175, R178). -/

namespace Sys2Proof.Machine

open Sys2Proof

variable {s t : State} {n : NestId}

/-! ## The start of a run (R175) -/

/-- The change of mode, with its event (R171). -/
theorem changeMode_eq_withMode (m : Mode) (c : ModeCause) (s : State) : changeMode m c s = s.withMode m c := rfl

/-- The window and threshold that a run start finds changed or unchanged (R151). -/
theorem lotRunStart_eq (s : State) : lotRunStart s =
    let c := s.tables.config
    let same := s.lot.settings.window = c.yieldWindow ∧ s.lot.settings.threshold = c.yieldThreshold
    let settings : LotSettings := ⟨c.yieldWindow, c.yieldThreshold, c.failLimit⟩
    (s.setLot (if same then { s.lot with settings := settings }
      else { s.lot with settings := settings, outcomes := [], passCount := 0, yieldLow := false })).setPort
      (if ¬same ∧ s.lot.yieldLow = true then s.port.handOver (.yieldRecovered s.lot.lotId c.yieldWindow c.yieldThreshold 0 .runStart)
      else s.port) := by
  have unchanged : (decide ((lotSettings s.tables.config).window = s.lot.settings.window) &&
      decide ((lotSettings s.tables.config).threshold = s.lot.settings.threshold)) = true ↔
      s.lot.settings.window = s.tables.config.yieldWindow ∧ s.lot.settings.threshold = s.tables.config.yieldThreshold := by
    rw [Bool.and_eq_true, decide_eq_true_iff, decide_eq_true_iff, eq_comm, eq_comm (b := s.lot.settings.threshold)]
    rfl
  by_cases same : s.lot.settings.window = s.tables.config.yieldWindow ∧ s.lot.settings.threshold = s.tables.config.yieldThreshold
  · refine (if_pos (unchanged.mpr same)).trans ?_
    dsimp only
    rw [if_pos same, if_neg fun afresh => afresh.1 same]
    rfl
  · refine (if_neg (mt unchanged.mp same)).trans ?_
    dsimp only
    rw [if_neg same, recoveredBy]
    cases low : s.lot.yieldLow with
    | true => rw [if_pos rfl, if_pos ⟨same, rfl⟩]; rfl
    | false => rw [if_neg nofun, if_neg fun afresh => nomatch afresh.2]; rfl

/-- The permit of the part that enters RUN (R61). -/
theorem permitRunStart_eq (s : State) : permitRunStart s = s.setPermit (if role s = .first then s.permit.take else s.permit) := by
  unfold permitRunStart
  split <;> rfl

/-! ## The leaving of a running mode (R178) -/

/-- The permit at the leaving of a running mode: one pass where it is held or latched outside role SOLO (R61). -/
theorem Permit.leave_eq (p : Permit) (r : Role) :
    let idle := { p with held := false, latch := false, due := false, holdTimer := none, waitTimer := none }
    p.leave (decide (r = .solo)) =
      if r ≠ .solo ∧ (p.held = true ∨ p.latch = true) then
        match p.cycle with
        | .idle => { idle with cycle := .pulse 0 }
        | _ => { idle with pendingOut := true }
      else idle := by
  have passes : (!decide (r = .solo) && (p.held || p.latch)) = true ↔ r ≠ .solo ∧ (p.held = true ∨ p.latch = true) := by simp
  unfold Permit.leave Permit.sendPulse
  simp only [passes]
  split
  · cases p.cycle <;> rfl
  · rfl

/-- An abort changes no nest but its own. -/
theorem abortUnit_nest_ne (reason : AbortReason) (m : NestId) (other : m ≠ n) : (abortUnit n reason s).nest m = s.nest m := by
  by_cases underTest : (s.nest n).state.underTest = true
  · rw [abortReleasesEveryClaim n reason s (underTest_iff.mp underTest)]
    change (s.setNest n _).nest m = _
    rw [State.setNest_nest, if_neg other.symm]
  · rw [abortUnit, if_neg underTest]

/-- An abort takes a unit under test to DISPOSING, and leaves any other nest as it is. -/
theorem abortUnit_nest_self (reason : AbortReason) : ((abortUnit n reason s).nest n).state.underTest = false ∧
    ((s.nest n).state.underTest = false → (abortUnit n reason s).nest n = s.nest n) := by
  by_cases underTest : (s.nest n).state.underTest = true
  · rw [abortReleasesEveryClaim n reason s (underTest_iff.mp underTest)]
    refine ⟨?_, fun other => absurd underTest (by rw [other]; nofun)⟩
    change ((s.setNest n _).nest n).state.underTest = false
    rw [State.setNest_nest_self]
    rfl
  · rw [abortUnit, if_neg underTest]
    exact ⟨Bool.eq_false_iff.mpr underTest, fun _ => rfl⟩

/-- After the aborts of a list that names it, a nest has no unit under test; one without a unit under test stays as it was. -/
theorem foldl_abortUnit_nest (reason : AbortReason) : ∀ (l : List NestId) (s : State),
    (n ∈ l ∨ (s.nest n).state.underTest = false →
      ((l.foldl (fun s m => abortUnit m reason s) s).nest n).state.underTest = false) ∧
    ((s.nest n).state.underTest = false → (l.foldl (fun s m => abortUnit m reason s) s).nest n = s.nest n)
  | [], s => ⟨fun h => h.elim nofun id, fun _ => rfl⟩
  | m :: l, s => by
    obtain ⟨ends, stays⟩ := foldl_abortUnit_nest reason l (abortUnit m reason s)
    obtain rfl | other := eq_or_ne m n
    · obtain ⟨ended, kept⟩ := abortUnit_nest_self (s := s) (n := m) reason
      exact ⟨fun _ => ends (.inr ended), fun idle => (stays ended).trans (kept idle)⟩
    · have same := abortUnit_nest_ne (s := s) (n := m) reason n other.symm
      rw [same] at ends stays
      exact ⟨fun h => ends (h.imp_left fun mem => (List.mem_cons.mp mem).resolve_left other.symm), stays⟩

/-- The aborts of one mode event, in ascending nest order (R17). -/
theorem abortAll_eq (reason : AbortReason) (s : State) :
    abortAll reason s = abortUnit 3 reason (abortUnit 2 reason (abortUnit 1 reason (abortUnit 0 reason s))) := rfl

/-- The leaving of a running mode, with the permit's pass written out (R61, R178). -/
theorem leaveRunning_eq (mode : Mode) (cause : ModeCause) (s : State) :
    let idle := { s.permit with held := false, latch := false, due := false, holdTimer := none, waitTimer := none }
    leaveRunning mode cause s = (((abortAll .stopped s).setPermit
      (if role s ≠ .solo ∧ (s.permit.held = true ∨ s.permit.latch = true) then
        match s.permit.cycle with
        | .idle => { idle with cycle := .pulse 0 }
        | _ => { idle with pendingOut := true }
      else idle)).setGuard Guard.start).withMode mode cause := by
  obtain ⟨_, permit, _, _, _, _, _, tables, _⟩ := abortAll_frame (s := s) .stopped
  have sameRole : role (abortAll .stopped s) = role s := by rw [role, tables, role]
  rw [leaveRunning, changeMode_eq_withMode]
  dsimp only
  rw [permit, sameRole, Permit.leave_eq]

/-- The leaving of a running mode leaves the nests to the aborts. -/
theorem leaveRunning_nest (mode : Mode) (cause : ModeCause) : (leaveRunning mode cause s).nest n = (abortAll .stopped s).nest n := by
  rw [leaveRunning_eq]
  generalize abortAll .stopped s = u
  rfl

/-- Settles O52: the parts of the two mode events, and the aborts nest by nest. -/
theorem runStartsAndEnds : Obligations.RunStartsAndEnds := by
  refine ⟨fun s => ?_, fun mode cause s => ⟨?_, fun n => ?_⟩⟩
  · rw [enterRun, changeMode_eq_withMode, permitRunStart_eq, lotRunStart_eq]
    rfl
  · rw [leaveRunning_eq, abortAll_eq]
    generalize abortUnit 3 .stopped _ = u
    rfl
  · have all (m : NestId) : m ∈ nestIds := by fin_cases m <;> simp [nestIds]
    obtain ⟨ends, stays⟩ := foldl_abortUnit_nest (n := n) .stopped nestIds s
    have idle (x : NestState) : x.underTest = false ↔ x ≠ .testing ∧ x ≠ .finishing := by cases x <;> simp [NestState.underTest]
    rw [leaveRunning_nest, ← and_assoc, ← idle]
    exact ⟨ends (.inl (all n)), fun notTesting notFinishing => stays ((idle _).mpr ⟨notTesting, notFinishing⟩)⟩

end Sys2Proof.Machine
end

section
/-! PROOFS. Rounded values found by comparing whole numbers (R104, R106): what a bisection finds, the rounding of a quotient, and the rounding of the
logarithm of a ratio. -/

namespace Sys2Proof.Machine

open Sys2Proof

/-! ## What a bisection finds -/

/-- A bisection ends at the last number of its range, or before one that it has found to fail; and at its first, or at one that it has found to
hold. -/
theorem bisect_spec (p : Nat → Bool) : ∀ k lo, lo ≤ bisect p k lo ∧ bisect p k lo < lo + 2 ^ k ∧ (bisect p k lo = lo ∨ p (bisect p k lo) = true) ∧
    (bisect p k lo + 1 = lo + 2 ^ k ∨ p (bisect p k lo + 1) = false)
  | 0, lo => ⟨le_rfl, Nat.lt_add_one lo, .inl rfl, .inl rfl⟩
  | k + 1, lo => by
    have twice : 2 ^ (k + 1) = 2 ^ k + 2 ^ k := by rw [pow_succ]; omega
    rw [bisect]
    split
    · next holds =>
      obtain ⟨above, below, found, ends⟩ := bisect_spec p k (lo + 2 ^ k)
      exact ⟨by omega, by omega, .inr (found.elim (fun first => by rw [first]; exact holds) id), ends.imp_left (by omega)⟩
    · next fails =>
      obtain ⟨above, below, found, ends⟩ := bisect_spec p k lo
      exact ⟨above, by omega, found, .inr (ends.elim (fun last => by rw [last]; exact Bool.eq_false_iff.mpr fails) id)⟩

/-- A bisection from 0 for the numbers less than half a unit above `y` finds the nearest one to `y`, within its range. -/
theorem bisect_nearest {p : Nat → Bool} {y : ℝ} (k : Nat) (least : 0 ≤ y) (holds : ∀ z : Nat, 1 ≤ z → (p z = true ↔ (z : ℝ) - 1 / 2 ≤ y)) :
    |(bisect p k 0 : ℝ) - min (2 ^ k - 1) y| ≤ 1 / 2 := by
  obtain ⟨_, below, found, ends⟩ := bisect_spec p k 0
  generalize bisect p k 0 = r at *
  have range : (r : ℝ) + 1 ≤ 2 ^ k := by exact_mod_cast (by omega : r + 1 ≤ 2 ^ k)
  have lower : (r : ℝ) - 1 / 2 ≤ y := by
    rcases Nat.eq_zero_or_pos r with rfl | positive
    · norm_num; linarith
    · exact (holds r positive).mp (found.resolve_left (by omega))
  have upper : min (2 ^ k - 1) y ≤ r + 1 / 2 := by
    rcases ends with last | fails
    · have last : (r : ℝ) + 1 = 2 ^ k := by exact_mod_cast (by omega : r + 1 = 2 ^ k)
      exact (min_le_left _ _).trans (by linarith)
    · refine (min_le_right _ _).trans (not_lt.mp fun more => ?_)
      rw [(holds (r + 1) (by omega)).mpr (by push_cast; linarith)] at fails
      cases fails
  have low : (r : ℝ) - 1 / 2 ≤ min (2 ^ k - 1) y := le_min (by linarith) lower
  rw [abs_le]
  constructor <;> linarith

/-! ## Quotients (R104) -/

/-- The whole part of a quotient of natural numbers and a half. -/
theorem floor_half (num den : Nat) (positive : 0 < den) : ((((2 * num + den) / (2 * den) : Nat) : Int)) = ⌊(num : ℝ) / den + 1 / 2⌋ := by
  have quotient : (num : ℝ) / den + 1 / 2 = ((2 * num + den : Nat) : ℝ) / ((2 * den : Nat) : ℝ) := by
    have : (den : ℝ) ≠ 0 := by positivity
    push_cast
    field_simp
  rw [quotient, ← Nat.floor_div_eq_div (K := ℝ), Int.natCast_floor_eq_floor (by positivity)]

/-- The quotient is rounded to the nearest integer, halves away from zero (R104). -/
theorem roundDiv_eq (num : Int) (den : Nat) (positive : 0 < den) :
    roundDiv num den = if 0 ≤ num then ⌊(num : ℝ) / den + 1 / 2⌋ else ⌈(num : ℝ) / den - 1 / 2⌉ := by
  unfold roundDiv
  split
  · next natural =>
    obtain ⟨n, rfl⟩ := Int.eq_ofNat_of_zero_le natural
    simpa using floor_half n den positive
  · next negative =>
    obtain ⟨n, same⟩ := Int.eq_ofNat_of_zero_le (by omega : 0 ≤ -num)
    obtain rfl : num = -(n : Int) := by omega
    have mirrored : ((-(n : Int) : Int) : ℝ) / den - 1 / 2 = -((n : ℝ) / den + 1 / 2) := by push_cast; ring
    rw [mirrored, Int.ceil_neg, ← floor_half n den positive, Int.neg_neg, Int.toNat_natCast]

/-! ## Logarithms of ratios (R106) -/

/-- The comparison of powers is that of the logarithm. -/
theorem logAtLeast_iff {num den : Nat} (top : 0 < num) (bottom : 0 < den) (k : Int) :
    logAtLeast num den k = true ↔ (k : ℝ) - 1 / 2 ≤ 100 * Real.logb 10 ((num : ℝ) / den) := by
  have ten : (1 : ℝ) < 10 := by norm_num
  have topR : (0 : ℝ) < num := by exact_mod_cast top
  have bottomR : (0 : ℝ) < den := by exact_mod_cast bottom
  have powers : (((2 * k - 1).toNat : ℝ)) - ((1 - 2 * k).toNat : ℝ) = 2 * k - 1 := by
    have : (((2 * k - 1).toNat : Int)) - ((1 - 2 * k).toNat : Int) = 2 * k - 1 := by omega
    exact_mod_cast this
  have left : Real.logb 10 ((den : ℝ) ^ 200 * 10 ^ (2 * k - 1).toNat) = 200 * Real.logb 10 den + (2 * k - 1).toNat := by
    rw [Real.logb_mul (by positivity) (by positivity), Real.logb_pow, Real.logb_pow, Real.logb_self_eq_one ten, mul_one]
    norm_num
  have right : Real.logb 10 ((num : ℝ) ^ 200 * 10 ^ (1 - 2 * k).toNat) = 200 * Real.logb 10 num + (1 - 2 * k).toNat := by
    rw [Real.logb_mul (by positivity) (by positivity), Real.logb_pow, Real.logb_pow, Real.logb_self_eq_one ten, mul_one]
    norm_num
  calc logAtLeast num den k = true
      ↔ den ^ 200 * 10 ^ (2 * k - 1).toNat ≤ num ^ 200 * 10 ^ (1 - 2 * k).toNat := decide_eq_true_iff
    _ ↔ (den : ℝ) ^ 200 * 10 ^ (2 * k - 1).toNat ≤ (num : ℝ) ^ 200 * 10 ^ (1 - 2 * k).toNat := by exact_mod_cast Iff.rfl
    _ ↔ 200 * Real.logb 10 den + (2 * k - 1).toNat ≤ 200 * Real.logb 10 num + (1 - 2 * k).toNat := by
      rw [← left, ← right, Real.logb_le_logb ten (by positivity) (by positivity)]
    _ ↔ (k : ℝ) - 1 / 2 ≤ 100 * Real.logb 10 ((num : ℝ) / den) := by
      rw [Real.logb_div topR.ne' bottomR.ne']
      constructor <;> intro h <;> linarith

/-- The logarithm of a ratio is rounded to the nearest integer, within −1500 and +600 (R106). -/
theorem roundLog_roundsTo {num den : Nat} (top : 0 < num) (bottom : 0 < den) :
    RoundsTo (roundLog num den) (100 * Real.logb 10 ((num : ℝ) / den)) := by
  have holds (j : Nat) : (decide (j ≤ 2100) && logAtLeast num den ((j : Int) - 1500)) = true ↔
      j ≤ 2100 ∧ (j : ℝ) - 1500 - 1 / 2 ≤ 100 * Real.logb 10 ((num : ℝ) / den) := by
    rw [Bool.and_eq_true, decide_eq_true_iff, logAtLeast_iff top bottom]
    push_cast
    rfl
  rw [roundLog, if_neg top.ne']
  obtain ⟨_, below, found, ends⟩ := bisect_spec (fun j => decide (j ≤ 2100) && logAtLeast num den ((j : Int) - 1500)) 12 0
  generalize bisect _ 12 0 = r at *
  generalize 100 * Real.logb 10 ((num : ℝ) / den) = x at *
  rw [holds] at found
  have upto : r ≤ 2100 := found.elim (by omega) And.left
  have range : (r : ℝ) ≤ 2100 := by exact_mod_cast upto
  have natural : (0 : ℝ) ≤ r := Nat.cast_nonneg r
  have lower : (r : ℝ) - 1500 - 1 / 2 ≤ max (-1500) (min 600 x) := by
    rcases found with rfl | ⟨_, reached⟩
    · exact le_max_of_le_left (by norm_num)
    · exact le_max_of_le_right (le_min (by linarith) reached)
  have upper : max (-1500) (min 600 x) ≤ (r : ℝ) - 1500 + 1 / 2 := by
    refine max_le (by linarith) ?_
    rcases upto.lt_or_eq with below | rfl
    · have fails := ends.resolve_left (by omega)
      refine (min_le_right _ _).trans (not_lt.mp fun more => ?_)
      rw [(holds (r + 1)).mpr ⟨by omega, by push_cast; linarith⟩] at fails
      cases fails
    · exact (min_le_left _ _).trans (by norm_num)
  rw [RoundsTo, abs_le]
  push_cast
  constructor <;> linarith

/-- Settles O40. -/
theorem rounding : Obligations.Rounding := ⟨roundDiv_eq, fun _ => if_pos rfl, fun _ _ => roundLog_roundsTo⟩

end Sys2Proof.Machine
end

section
/-! PROOFS. The values of the figures from the sums of a record (R105 to R110). -/

namespace Sys2Proof.Machine

open Sys2Proof

variable {p mic cur : Pair} {m : Nat} {w : WindowRecord}

/-! ## Amplitudes (R105) -/

/-- The amplitude of a sum-list entry over a window of `m` frames (R105). -/
noncomputable def Pair.amplitude (p : Pair) (m : Nat) : ℝ := 2 * Real.sqrt ((p.i : ℝ) ^ 2 + (p.q : ℝ) ^ 2) / (32767 * (m : ℝ))

theorem Pair.power_cast (p : Pair) : (p.power : ℝ) = (p.i : ℝ) ^ 2 + (p.q : ℝ) ^ 2 := by
  simp [Pair.power, Nat.cast_natAbs]

theorem Pair.amplitude_nonneg (p : Pair) (m : Nat) : 0 ≤ p.amplitude m := by unfold Pair.amplitude; positivity

theorem Pair.amplitude_eq (p : Pair) (m : Nat) : p.amplitude m = 2 * Real.sqrt p.power / (32767 * (m : ℝ)) := by
  rw [p.power_cast, Pair.amplitude]

theorem Pair.amplitude_sq (p : Pair) (m : Nat) : p.amplitude m ^ 2 = 4 * p.power / (32767 * (m : ℝ)) ^ 2 := by
  rw [p.amplitude_eq, div_pow, mul_pow, Real.sq_sqrt (Nat.cast_nonneg _)]
  norm_num

/-- An amplitude is 0 exactly where the entry's sums are. -/
theorem Pair.amplitude_eq_zero (frames : 0 < m) : p.amplitude m = 0 ↔ p.power = 0 := by
  have : (m : ℝ) ≠ 0 := by positivity
  rw [← sq_eq_zero_iff, p.amplitude_sq]
  simp [this]

theorem Pair.power_pos (frames : 0 < m) (sounds : 0 < p.amplitude m) : 0 < p.power :=
  Nat.pos_of_ne_zero fun silent => sounds.ne' ((Pair.amplitude_eq_zero frames).mpr silent)

/-- A logarithm of a square. -/
theorem logb_sq (x : ℝ) : 100 * Real.logb 10 (x ^ 2) = 200 * Real.logb 10 x := by
  rw [Real.logb_pow]; push_cast; ring

/-- The level of an amplitude (R106). -/
theorem amplitudeLevel_roundsTo (frames : 0 < m) (sounds : 0 < p.amplitude m) :
    RoundsTo (amplitudeLevel p m) (200 * Real.logb 10 (p.amplitude m / 8388608)) := by
  have power := Pair.power_pos frames sounds
  have rounded := roundLog_roundsTo (num := 4 * p.power) (den := (32767 * m) ^ 2 * fullScale ^ 2) (by omega)
    (by have : fullScale = 8388608 := rfl; rw [this]; positivity)
  have ratio : ((4 * p.power : Nat) : ℝ) / (((32767 * m) ^ 2 * fullScale ^ 2 : Nat) : ℝ) = (p.amplitude m / 8388608) ^ 2 := by
    rw [div_pow, p.amplitude_sq, div_div]
    norm_num [fullScale]
  rwa [ratio, logb_sq] at rounded

/-! ## Powers of the microphone's harmonics (R108) -/

/-- The sum of the squares of the amplitudes of some entries. -/
noncomputable def harmonicPower (w : WindowRecord) (sel : Pair → Bool) : ℝ := ((w.sums.filter sel).map fun x => x.amplitude w.mEff ^ 2).sum

theorem harmonicPower_mic (w : WindowRecord) (h : Nat → Bool) :
    harmonicPower w (fun x => decide (x.channel = .mic) && h x.h) = 4 * micPower w h / (32767 * (w.mEff : ℝ)) ^ 2 := by
  unfold harmonicPower micPower
  induction w.sums.filter fun x => decide (x.channel = .mic) && h x.h with
  | nil => simp
  | cons x l ih =>
    rw [List.map_cons, List.sum_cons, List.map_cons, List.sum_cons, ih, x.amplitude_sq]
    push_cast
    ring

section
variable (frames : 0 < w.mEff) (sounds : 0 < mic.amplitude w.mEff) (h : Nat → Bool)
include frames

/-- The harmonics are silent exactly where their sums are 0. -/
theorem micPower_eq_zero (none_ : harmonicPower w (fun x => decide (x.channel = .mic) && h x.h) = 0) : micPower w h = 0 := by
  have : (w.mEff : ℝ) ≠ 0 := by positivity
  rw [harmonicPower_mic] at none_
  simpa [this] using none_

include sounds

/-- The level of the harmonics against the fundamental (R108). -/
theorem harmonicLevel_roundsTo (some_ : 0 < harmonicPower w (fun x => decide (x.channel = .mic) && h x.h)) :
    RoundsTo (roundLog (micPower w h) mic.power)
      (100 * Real.logb 10 (harmonicPower w (fun x => decide (x.channel = .mic) && h x.h) / mic.amplitude w.mEff ^ 2)) := by
  have power := Pair.power_pos frames sounds
  have top : 0 < micPower w h := Nat.pos_of_ne_zero fun zero => some_.ne' (by rw [harmonicPower_mic, zero]; simp)
  have ratio : harmonicPower w (fun x => decide (x.channel = .mic) && h x.h) / mic.amplitude w.mEff ^ 2 = (micPower w h : ℝ) / mic.power := by
    have : (w.mEff : ℝ) ≠ 0 := by positivity
    have : (mic.power : ℝ) ≠ 0 := by positivity
    rw [harmonicPower_mic, mic.amplitude_sq]
    field_simp
  rw [ratio]
  exact roundLog_roundsTo top power

/-- The level of the peak against the fundamental (R109). -/
theorem crestLevel_roundsTo (peak : 0 < w.peak) :
    RoundsTo (crestLevel w.peak mic w.mEff) (200 * Real.logb 10 ((w.peak : ℝ) / mic.amplitude w.mEff)) := by
  have power := Pair.power_pos frames sounds
  have rounded := roundLog_roundsTo (num := w.peak ^ 2 * (32767 * w.mEff) ^ 2) (den := 4 * mic.power) (by positivity) (by positivity)
  have ratio : ((w.peak ^ 2 * (32767 * w.mEff) ^ 2 : Nat) : ℝ) / ((4 * mic.power : Nat) : ℝ) = ((w.peak : ℝ) / mic.amplitude w.mEff) ^ 2 := by
    have : (w.mEff : ℝ) ≠ 0 := by positivity
    have : (mic.power : ℝ) ≠ 0 := by positivity
    rw [div_pow, mic.amplitude_sq]
    push_cast
    field_simp
  rwa [ratio, logb_sq] at rounded

end

/-! ## The impedance (R110) -/

/-- The impedance is the nearest number of centiohms, at most 65,535 (R110). -/
theorem impedanceValue_nearest (frames : 0 < m) (sounds : 0 < cur.amplitude m) (scale drive : Nat) :
    |(impedanceValue scale drive cur m : ℝ) - min 65535 ((scale : ℝ) * drive / cur.amplitude m)| ≤ 1 / 2 := by
  have power := Pair.power_pos frames sounds
  have rootPos : 0 < Real.sqrt cur.power := Real.sqrt_pos.mpr (by exact_mod_cast power)
  have framesPos : (0 : ℝ) < m := by exact_mod_cast frames
  have quotient : (scale : ℝ) * drive / cur.amplitude m = (scale * drive * 32767 * m) / (2 * Real.sqrt cur.power) := by
    rw [cur.amplitude_eq]
    field_simp
  have nearest := bisect_nearest (p := fun z => decide ((2 * z - 1) ^ 2 * cur.power ≤ (scale * drive * 32767 * m) ^ 2))
    (y := (scale : ℝ) * drive / cur.amplitude m) 16 (div_nonneg (by positivity) sounds.le) fun z least => ?_
  · rw [show (2 : ℝ) ^ 16 - 1 = 65535 by norm_num] at nearest
    exact nearest
  · have odd : ((2 * z - 1 : Nat) : ℝ) = 2 * z - 1 := by rw [Nat.cast_sub (by omega)]; push_cast; ring
    have oddPos : (0 : ℝ) ≤ 2 * z - 1 := by rw [← odd]; exact Nat.cast_nonneg _
    have root : (2 * (z : ℝ) - 1) ^ 2 * cur.power = ((2 * z - 1) * Real.sqrt cur.power) ^ 2 := by
      rw [mul_pow, Real.sq_sqrt (Nat.cast_nonneg _)]
    calc decide ((2 * z - 1) ^ 2 * cur.power ≤ (scale * drive * 32767 * m) ^ 2) = true
        ↔ (2 * z - 1) ^ 2 * cur.power ≤ (scale * drive * 32767 * m) ^ 2 := decide_eq_true_iff
      _ ↔ (2 * (z : ℝ) - 1) ^ 2 * cur.power ≤ ((scale : ℝ) * drive * 32767 * m) ^ 2 := by
        rw [← odd]; exact_mod_cast Iff.rfl
      _ ↔ (2 * (z : ℝ) - 1) * Real.sqrt cur.power ≤ scale * drive * 32767 * m := by
        rw [root, pow_le_pow_iff_left₀ (by positivity) (by positivity) two_ne_zero]
      _ ↔ (z : ℝ) - 1 / 2 ≤ scale * drive / cur.amplitude m := by
        rw [quotient, le_div_iff₀ (by positivity)]
        constructor <;> intro h <;> linarith

/-- The fundamental that a record's sum list holds. -/
theorem fundamentalOf_of_find {c : Channel} (found : (w.sums.find? fun x => decide (x.channel = c) && decide (x.h = 1)) = some mic) :
    fundamentalOf w c = mic := by
  rw [fundamentalOf, fundamental, found]; rfl

/-- Settles O41: each figure is the rounded logarithm or quotient of the amplitudes that the sums give. -/
theorem figureValues : Obligations.FigureValues := by
  intro w cal floor frames
  have thd : (fun x : Pair => decide (x.channel = .mic ∧ 2 ≤ x.h ∧ x.h ≤ 5)) =
      fun x => decide (x.channel = .mic) && (fun h => decide (2 ≤ h ∧ h ≤ 5)) x.h := by funext x; simp
  have rub : (fun x : Pair => decide (x.channel = .mic ∧ 6 ≤ x.h)) = fun x => decide (x.channel = .mic) && (fun h => decide (6 ≤ h)) x.h := by
    funext x; simp
  dsimp only
  rw [thd, rub]
  refine ⟨fun p => ⟨amplitudeLevel_roundsTo frames, fun silent => ?_⟩, fun mic found => ⟨?_, fun sounds => ⟨?_, ?_, ?_, ?_, ?_, ?_⟩⟩,
    fun cur found => ⟨fun isOpen => ?_, fun above sounds => ?_⟩⟩
  · rw [amplitudeLevel, (Pair.amplitude_eq_zero frames).mp silent]
    rfl
  · rw [responseValue, fundamentalOf_of_find found]
    rfl
  · intro some_
    rw [thdValue, fundamentalOf_of_find found]
    exact harmonicLevel_roundsTo frames sounds _ some_
  · intro none_
    rw [thdValue, micPower_eq_zero frames (fun h => decide (2 ≤ h ∧ h ≤ 5)) none_]
    rfl
  · intro some_
    rw [rubValue, fundamentalOf_of_find found]
    exact harmonicLevel_roundsTo frames sounds _ some_
  · intro none_
    rw [rubValue, micPower_eq_zero frames (fun h => decide (6 ≤ h)) none_]
    rfl
  · intro peak
    rw [crestValue, fundamentalOf_of_find found]
    exact crestLevel_roundsTo frames sounds peak
  · intro flat
    rw [crestValue, crestLevel, flat]
    simp [roundLog]
  · rw [impedanceFigure, fundamentalOf_of_find found]
    refine if_pos ?_
    rw [Bool.or_eq_true, decide_eq_true_iff, decide_eq_true_iff]
    exact isOpen.imp_right (Pair.amplitude_eq_zero frames).mp
  · rw [impedanceFigure, fundamentalOf_of_find found]
    rw [if_neg (by simp [Int.not_lt.mpr above, (Pair.power_pos frames sounds).ne'])]
    rw [Int.cast_natCast]
    exact impedanceValue_nearest frames sounds cal.scale (driveAmplitude w.level)

end Sys2Proof.Machine
end

section
/-! PROOFS. The increment table (R25) and the drive amplitudes (R35): the rounded values of their formulas, found by comparing powers. -/

namespace Sys2Proof.Machine

open Sys2Proof

/-! ## Comparisons of powers -/

/-- Two natural numbers lie as their quotient with powers do: with `x` the `k`-th root of `b / a`, `n ^ k × a ≤ c ^ k × b` says `n ≤ c × x`. -/
theorem pow_mul_le_iff {n c a b k : Nat} {x : ℝ} (degree : k ≠ 0) (base : 0 < a) (natural : 0 ≤ x) (root : x ^ k = (b : ℝ) / a) :
    n ^ k * a ≤ c ^ k * b ↔ (n : ℝ) ≤ c * x := by
  have baseR : (0 : ℝ) < a := by exact_mod_cast base
  calc n ^ k * a ≤ c ^ k * b ↔ (n : ℝ) ^ k * a ≤ (c : ℝ) ^ k * b := by exact_mod_cast Iff.rfl
    _ ↔ (n : ℝ) ^ k ≤ (c * x) ^ k := by rw [mul_pow, root, ← mul_div_assoc, le_div_iff₀ baseR]
    _ ↔ (n : ℝ) ≤ c * x := pow_le_pow_iff_left₀ (Nat.cast_nonneg n) (by positivity) degree

/-- The odd number below twice a positive one. -/
theorem cast_odd {z : Nat} (least : 1 ≤ z) : ((2 * z - 1 : Nat) : ℝ) = 2 * z - 1 := by
  rw [Nat.cast_sub (by omega)]; push_cast; ring

/-! ## The increment table (R25) -/

/-- The exact phase advance per frame at a code. -/
noncomputable def exactIncrement (c : Nat) : ℝ := 20 * (2 : ℝ) ^ ((c : ℝ) / 48) * 2 ^ 32 / 96000

theorem increment_iff (c : Nat) {z : Nat} (least : 1 ≤ z) :
    decide (((2 * z - 1) * 4800) ^ 48 ≤ 2 ^ (33 * 48) * 2 ^ c) = true ↔ (z : ℝ) - 1 / 2 ≤ exactIncrement c := by
  have natural : (0 : ℝ) ≤ 2 ^ ((c : ℝ) / 48) := by positivity
  have root : ((2 : ℝ) ^ ((c : ℝ) / 48)) ^ 48 = ((2 ^ c : Nat) : ℝ) / (1 : Nat) := by
    rw [← Real.rpow_natCast, ← Real.rpow_mul (by norm_num)]
    norm_num
  have powers := pow_mul_le_iff (n := (2 * z - 1) * 4800) (c := 2 ^ 33) (by norm_num : 48 ≠ 0) one_pos natural root
  rw [mul_one, ← pow_mul] at powers
  rw [decide_eq_true_iff, powers, exactIncrement]
  push_cast [cast_odd least]
  constructor <;> intro h <;> linarith

theorem exactIncrement_lower (c : Nat) : 894784 + 8 / 10 ≤ exactIncrement c := by
  have : (1 : ℝ) ≤ 2 ^ ((c : ℝ) / 48) := Real.one_le_rpow (by norm_num) (by positivity)
  rw [exactIncrement]
  linarith

/-- The phase advance at a code is below the next octave's. -/
theorem exactIncrement_lt (c : Nat) : exactIncrement c < 2 ^ (21 + c / 48) := by
  have octave : (2 : ℝ) ^ ((c : ℝ) / 48) ≤ 2 ^ (c / 48 + 1) := by
    rw [← Real.rpow_natCast]
    refine Real.rpow_le_rpow_of_exponent_le (by norm_num) ?_
    rw [div_le_iff₀ (by norm_num)]
    exact_mod_cast (by omega : c ≤ (c / 48 + 1) * 48)
  have positive : (0 : ℝ) < 2 ^ (c / 48) := by positivity
  rw [pow_succ] at octave
  rw [exactIncrement, pow_add]
  norm_num
  linarith

/-- An increment is the nearest integer to the exact phase advance (R25). -/
theorem increment_nearest (c : Nat) : |(increment c : ℝ) - exactIncrement c| ≤ 1 / 2 := by
  have nearest := bisect_nearest (p := fun z => decide (((2 * z - 1) * 4800) ^ 48 ≤ 2 ^ (33 * 48) * 2 ^ c)) (30 + c / 48)
    ((by norm_num : (0 : ℝ) ≤ 894784 + 8 / 10).trans (exactIncrement_lower c)) fun z => increment_iff c
  have range : exactIncrement c ≤ 2 ^ (30 + c / 48) - 1 := by
    have below := exactIncrement_lt c
    have positive : (1 : ℝ) ≤ 2 ^ (c / 48) := one_le_pow₀ (by norm_num)
    rw [pow_add] at below ⊢
    norm_num at below ⊢
    linarith
  rwa [min_eq_right range] at nearest

/-- The increments of the codes up to 480 (R25). -/
theorem increment_table {c : Nat} (top : c ≤ 480) :
    |(increment c : ℝ) - 20 * (2 : ℝ) ^ ((c : ℝ) / 48) * 2 ^ 32 / 96000| ≤ 1 / 2 ∧ 894785 ≤ increment c ∧ increment c ≤ 916259690 ∧
    |(increment c : ℝ) * 96000 / 2 ^ 32 - 20 * (2 : ℝ) ^ ((c : ℝ) / 48)| < 6 / 10 ^ 7 * (20 * (2 : ℝ) ^ ((c : ℝ) / 48)) := by
  have nearest := increment_nearest c
  have lower := exactIncrement_lower c
  have upper : exactIncrement c ≤ 916259689 + 9 / 10 := by
    have octaves : (2 : ℝ) ^ ((c : ℝ) / 48) ≤ 2 ^ (10 : ℝ) := by
      refine Real.rpow_le_rpow_of_exponent_le (by norm_num) ?_
      rw [div_le_iff₀ (by norm_num)]
      exact_mod_cast top
    rw [exactIncrement]
    norm_num at octaves
    linarith
  obtain ⟨low, high⟩ := abs_le.mp nearest
  refine ⟨nearest, ?_, ?_, ?_⟩
  · have : (894784 : ℝ) < increment c := by linarith
    exact_mod_cast this
  · have : (increment c : ℝ) < 916259691 := by linarith
    exact Nat.le_of_lt_succ (by exact_mod_cast this)
  · have scaled : (increment c : ℝ) * 96000 / 2 ^ 32 - 20 * (2 : ℝ) ^ ((c : ℝ) / 48) = (increment c - exactIncrement c) * (96000 / 2 ^ 32) := by
      rw [exactIncrement]; ring
    have frequency : (20 : ℝ) ≤ 20 * (2 : ℝ) ^ ((c : ℝ) / 48) := by
      have : (1 : ℝ) ≤ 2 ^ ((c : ℝ) / 48) := Real.one_le_rpow (by norm_num) (by positivity)
      linarith
    rw [scaled, abs_mul, abs_of_pos (by norm_num : (0 : ℝ) < 96000 / 2 ^ 32)]
    linarith [mul_le_mul_of_nonneg_right nearest (by norm_num : (0 : ℝ) ≤ 96000 / 2 ^ 32)]

/-! ## The drive amplitudes (R35) -/

/-- The exact drive amplitude at a level. -/
noncomputable def exactAmplitude (level : Int) : ℝ := 8388607 * (10 : ℝ) ^ ((level : ℝ) / 200)

theorem amplitude_iff (level : Int) {z : Nat} (least : 1 ≤ z) :
    decide ((2 * z - 1) ^ 200 * 10 ^ (-level).toNat ≤ 16777214 ^ 200 * 10 ^ level.toNat) = true ↔ (z : ℝ) - 1 / 2 ≤ exactAmplitude level := by
  have natural : (0 : ℝ) ≤ 10 ^ ((level : ℝ) / 200) := by positivity
  have exponents : (level.toNat : ℝ) - ((-level).toNat : ℝ) = level := by
    have : ((level.toNat : Int)) - ((-level).toNat : Int) = level := by omega
    exact_mod_cast this
  have root : ((10 : ℝ) ^ ((level : ℝ) / 200)) ^ 200 = ((10 ^ level.toNat : Nat) : ℝ) / (10 ^ (-level).toNat : Nat) := by
    rw [← Real.rpow_natCast, ← Real.rpow_mul (by norm_num)]
    push_cast
    rw [← Real.rpow_natCast, ← Real.rpow_natCast, ← Real.rpow_sub (by norm_num), exponents]
    norm_num
  rw [decide_eq_true_iff, pow_mul_le_iff (by norm_num) (by positivity) natural root, exactAmplitude, cast_odd least]
  push_cast
  constructor <;> intro h <;> linarith

/-- An amplitude stays within the range of its search: 10^(1/200) is less than 2^(1/60). -/
theorem exactAmplitude_le (level : Int) : exactAmplitude level ≤ 2 ^ (25 + level.toNat / 60) - 1 := by
  have bound : (10 : ℝ) ^ ((level : ℝ) / 200) ≤ 2 ^ (level.toNat / 60 + 1) := by
    have decade : (10 : ℝ) ≤ 2 ^ ((10 : ℝ) / 3) := by
      have cube : ((2 : ℝ) ^ ((10 : ℝ) / 3)) ^ 3 = 2 ^ 10 := by
        rw [← Real.rpow_natCast, ← Real.rpow_mul (by norm_num), ← Real.rpow_natCast]
        norm_num
      refine (pow_le_pow_iff_left₀ (by norm_num) (by positivity) three_ne_zero).mp ?_
      rw [cube]
      norm_num
    have range : level ≤ (level.toNat / 60 + 1 : Nat) * 60 := by omega
    calc (10 : ℝ) ^ ((level : ℝ) / 200)
        ≤ 10 ^ (((level.toNat / 60 + 1 : Nat) * 60 : ℝ) / 200) := by
          refine Real.rpow_le_rpow_of_exponent_le (by norm_num) (div_le_div_of_nonneg_right ?_ (by norm_num))
          have := (Int.cast_le (R := ℝ)).mpr range
          push_cast at this ⊢
          exact this
      _ ≤ (2 ^ ((10 : ℝ) / 3)) ^ (((level.toNat / 60 + 1 : Nat) * 60 : ℝ) / 200) := Real.rpow_le_rpow (by norm_num) decade (by positivity)
      _ = 2 ^ (level.toNat / 60 + 1) := by
        rw [← Real.rpow_mul (by norm_num), ← Real.rpow_natCast]
        congr 1
        ring
  have positive : (1 : ℝ) ≤ 2 ^ (level.toNat / 60) := one_le_pow₀ (by norm_num)
  rw [pow_succ] at bound
  rw [exactAmplitude, pow_add]
  norm_num
  linarith

/-- A drive amplitude is the nearest integer to its formula (R35). -/
theorem driveAmplitude_nearest (level : Int) : |(driveAmplitude level : ℝ) - exactAmplitude level| ≤ 1 / 2 := by
  have nearest := bisect_nearest (p := fun z => decide ((2 * z - 1) ^ 200 * 10 ^ (-level).toNat ≤ 16777214 ^ 200 * 10 ^ level.toNat))
    (25 + level.toNat / 60) (by unfold exactAmplitude; positivity) fun z => amplitude_iff level
  rwa [min_eq_right (exactAmplitude_le level)] at nearest

end Sys2Proof.Machine
end

section
/-! PROOFS. The built-in sine table (R35, R69; log entry 12): the evaluation of the sine's series with 192 fraction bits, and the rounded samples. -/

namespace Sys2Proof.Machine

open Sys2Proof

/-! ## The series of the sine -/

/-- The nested sine series of an angle with square `y`, from its `k`-th factor inwards, without rounding. -/
noncomputable def nestedSine (y : ℝ) : Nat → ℝ → ℝ
  | 0, u => u
  | k + 1, u => nestedSine y k (1 - y * u / ((2 * (k + 1)) * (2 * (k + 1) + 1)))

/-- The nested series is the first terms of the sine's series, with `u` in the last one. -/
theorem mul_nestedSine (x : ℝ) : ∀ (k : Nat) (u : ℝ), x * nestedSine (x ^ 2) k u =
    ∑ j ∈ Finset.range k, (-1) ^ j * x ^ (2 * j + 1) / (2 * j + 1).factorial + (-1) ^ k * x ^ (2 * k + 1) / (2 * k + 1).factorial * u
  | 0, u => by simp [nestedSine]
  | k + 1, u => by
    have factorial : ((2 * (k + 1) + 1).factorial : ℝ) = (2 * (k + 1)) * (2 * (k + 1) + 1) * (2 * k + 1).factorial := by
      rw [show 2 * (k + 1) + 1 = (2 * k + 1) + 1 + 1 by ring, Nat.factorial_succ, Nat.factorial_succ]
      push_cast
      ring
    have positive : ((2 * k + 1).factorial : ℝ) ≠ 0 := by positivity
    have factors : (2 * ((k : ℝ) + 1)) * (2 * (k + 1) + 1) ≠ 0 := by positivity
    rw [nestedSine, mul_nestedSine x k, Finset.sum_range_succ, factorial]
    field_simp
    ring

/-- The terms of the exponential of `ix` have the sine's terms as their imaginary parts. -/
theorem im_exp_terms (x : ℝ) : ∀ k : Nat, (∑ m ∈ Finset.range (2 * k), ((x : ℂ) * Complex.I) ^ m / m.factorial).im =
    ∑ j ∈ Finset.range k, (-1) ^ j * x ^ (2 * j + 1) / (2 * j + 1).factorial
  | 0 => by simp
  | k + 1 => by
    have power : ((x : ℂ) * Complex.I) ^ (2 * k) = (((-1) ^ k * x ^ (2 * k) : ℝ) : ℂ) := by
      rw [mul_pow, pow_mul Complex.I, Complex.I_sq]
      push_cast
      ring
    have even : (((x : ℂ) * Complex.I) ^ (2 * k) / ((2 * k).factorial : ℂ)).im = 0 := by
      rw [power, ← Complex.ofReal_natCast, ← Complex.ofReal_div, Complex.ofReal_im]
    have odd : (((x : ℂ) * Complex.I) ^ (2 * k + 1) / ((2 * k + 1).factorial : ℂ)).im = (-1) ^ k * x ^ (2 * k + 1) / (2 * k + 1).factorial := by
      have real : ((x : ℂ) * Complex.I) ^ (2 * k + 1) / ((2 * k + 1).factorial : ℂ) =
          (((-1) ^ k * x ^ (2 * k + 1) / (2 * k + 1).factorial : ℝ) : ℂ) * Complex.I := by
        rw [pow_succ, power]
        push_cast
        ring
      rw [real, Complex.mul_I_im, Complex.ofReal_re]
    rw [show 2 * (k + 1) = 2 * k + 1 + 1 by ring, Finset.sum_range_succ, Finset.sum_range_succ, Finset.sum_range_succ, Complex.add_im,
      Complex.add_im, im_exp_terms x k, even, odd, add_zero]

/-- The series with 33 terms gives the sine of a quarter cycle's part. -/
theorem nestedSine_close {x : ℝ} (low : 0 ≤ x) (high : x ≤ 2) : |Real.sin x - x * nestedSine (x ^ 2) 32 1| ≤ 1 / 2 ^ 100 := by
  have series : x * nestedSine (x ^ 2) 32 1 = (∑ m ∈ Finset.range 66, ((x : ℂ) * Complex.I) ^ m / m.factorial).im := by
    rw [im_exp_terms x 33, mul_nestedSine, Finset.sum_range_succ _ 32, mul_one]
  have sine : Real.sin x = (Complex.exp ((x : ℂ) * Complex.I)).im := (Complex.exp_ofReal_mul_I_im x).symm
  have norm : ‖(x : ℂ) * Complex.I‖ = x := by simp [abs_of_nonneg low]
  have remainder := Complex.exp_bound' (x := (x : ℂ) * Complex.I) (n := 66) (by rw [norm]; norm_num; linarith)
  rw [norm] at remainder
  rw [series, sine, ← Complex.sub_im]
  refine (Complex.abs_im_le_norm _).trans (remainder.trans ?_)
  have power : x ^ 66 ≤ 2 ^ 66 := pow_le_pow_left₀ low high 66
  have factorial : (2 : ℝ) ^ 66 * 2 * 2 ^ 100 ≤ (66 : Nat).factorial := by norm_num [Nat.factorial]
  have positive : (0 : ℝ) < (66 : Nat).factorial := by positivity
  rw [div_mul_eq_mul_div, div_le_div_iff₀ positive (by positivity)]
  linarith

/-! ## Its evaluation in whole numbers -/

/-- One part of the 2 ^ 192 in a unit. -/
noncomputable def ulp : ℝ := 1 / 2 ^ 192

/-- A natural number of parts, in units. -/
noncomputable def units (n : Nat) : ℝ := n * ulp

theorem ulp_pos : 0 < ulp := by unfold ulp; positivity

theorem units_one : units (2 ^ 192) = 1 := by rw [units, ulp]; push_cast; norm_num

theorem units_le_units {a b : Nat} : units a ≤ units b ↔ a ≤ b := by
  rw [units, units, mul_le_mul_iff_left₀ ulp_pos]
  exact Nat.cast_le

theorem units_le_one {n : Nat} : units n ≤ 1 ↔ n ≤ 2 ^ 192 := by rw [← units_one, units_le_units]

theorem units_sub {n : Nat} (h : n ≤ 2 ^ 192) : units (2 ^ 192 - n) = 1 - units n := by
  rw [← units_one, units, units, units, Nat.cast_sub h, sub_mul]

theorem units_nonneg (n : Nat) : 0 ≤ units n := mul_nonneg (Nat.cast_nonneg n) ulp_pos.le

/-- A quotient is less than one above its whole part. -/
theorem lt_div_add_one (n d : Nat) : (n : ℝ) / d < (n / d : Nat) + 1 := by
  have floor := Nat.lt_floor_add_one ((n : ℝ) / d)
  rwa [Nat.floor_div_eq_div] at floor

/-- A quotient rounded down is less than one part below the exact one. -/
theorem units_div (n d : Nat) : units (n / d) ≤ units n / d ∧ units n / d < units (n / d) + ulp := by
  have quotient : units n / d = ((n : ℝ) / d) * ulp := by rw [units]; ring
  rw [quotient, units]
  exact ⟨mul_le_mul_of_nonneg_right Nat.cast_div_le ulp_pos.le, by linarith [mul_lt_mul_of_pos_right (lt_div_add_one n d) ulp_pos]⟩

/-- A product of two numbers of parts, in units. -/
theorem units_mul (a b : Nat) : units (a * b) / 2 ^ 192 = units a * units b := by
  rw [units, units, units, ulp]; push_cast; ring

/-- The series takes its factors from the innermost outwards. (`delta` keeps the kernel from comparing the two calls by their arguments.) -/
theorem sineSeries_succ (x2 k u : Nat) :
    sineSeries x2 (k + 1) u = sineSeries x2 k (2 ^ sineBits - x2 * u / (2 * (k + 1) * (2 * (k + 1) + 1) * 2 ^ sineBits)) := by
  delta sineSeries
  rfl

section
variable {x2 U k : Nat} {y u : ℝ} (square : |units x2 - y| ≤ ulp) (bounded : units x2 ≤ 5 / 2) (positive : 0 ≤ y) (yBounded : y ≤ 5 / 2)
include square bounded positive yBounded

/-- One factor of the nested series, in whole numbers: less than 8 parts off where the one within it is. -/
theorem factor_close (inner : |units U - u| ≤ 8 * ulp) (unit : U ≤ 2 ^ 192) :
    |units (2 ^ 192 - x2 * U / (2 * (k + 1) * (2 * (k + 1) + 1) * 2 ^ 192)) - (1 - y * u / ((2 * (k + 1)) * (2 * (k + 1) + 1)))| ≤ 8 * ulp := by
  have least : (6 : ℝ) ≤ 2 * (k + 1) * (2 * (k + 1) + 1) := by
    have : (0 : ℝ) ≤ k := Nat.cast_nonneg k
    nlinarith
  have unitR : units U ≤ 1 := units_le_one.mpr unit
  have product : units (x2 * U) / ((2 * (k + 1) * (2 * (k + 1) + 1) * 2 ^ 192 : Nat) : ℝ) =
      units x2 * units U / (2 * (k + 1) * (2 * (k + 1) + 1)) := by
    rw [← units_mul, div_div]
    simp only [Nat.cast_mul, Nat.cast_add, Nat.cast_one, Nat.cast_ofNat, Nat.cast_pow]
    rw [mul_comm (2 ^ 192 : ℝ)]
  obtain ⟨below, above⟩ := units_div (x2 * U) (2 * (k + 1) * (2 * (k + 1) + 1) * 2 ^ 192)
  rw [product] at below above
  generalize x2 * U / (2 * (k + 1) * (2 * (k + 1) + 1) * 2 ^ 192) = q at *
  generalize (2 : ℝ) * (k + 1) * (2 * (k + 1) + 1) = d at *
  have dPos : 0 < d := by linarith
  have natural := units_nonneg U
  have small : units x2 * units U / d ≤ 1 := by
    rw [div_le_one dPos]
    nlinarith
  have difference : |units x2 * units U - y * u| ≤ 21 * ulp := by
    have first : |(units x2 - y) * units U| ≤ ulp * 1 := by
      rw [abs_mul, abs_of_nonneg natural]
      exact mul_le_mul square unitR natural ulp_pos.le
    have second : |y * (units U - u)| ≤ 5 / 2 * (8 * ulp) := by
      rw [abs_mul, abs_of_nonneg positive]
      exact mul_le_mul yBounded inner (abs_nonneg _) (by norm_num)
    have whole : units x2 * units U - y * u = (units x2 - y) * units U + y * (units U - u) := by ring
    rw [whole]
    exact (abs_add_le _ _).trans (by linarith)
  have quotient : |units x2 * units U / d - y * u / d| ≤ 21 * ulp / 6 := by
    rw [← sub_div, abs_div, abs_of_pos dPos]
    exact div_le_div₀ (by linarith [ulp_pos]) difference (by norm_num) least
  rw [units_sub (units_le_one.mp (below.trans small))]
  have part := ulp_pos
  obtain ⟨low, high⟩ := abs_le.mp quotient
  rw [abs_le]
  constructor <;> linarith

/-- The nested series in whole numbers. -/
theorem sineSeries_close : ∀ (k : Nat) {U : Nat} {u : ℝ}, |units U - u| ≤ 8 * ulp → U ≤ 2 ^ 192 →
    |units (sineSeries x2 k U) - nestedSine y k u| ≤ 8 * ulp ∧ sineSeries x2 k U ≤ 2 ^ 192
  | 0, _, _, inner, unit => ⟨inner, unit⟩
  | k + 1, U, u, inner, unit => by
    rw [sineSeries_succ, sineBits, nestedSine]
    exact sineSeries_close k (factor_close square bounded positive yBounded inner unit) (Nat.sub_le _ _)

end

/-- The angle of a part of a quarter cycle, as it is evaluated. -/
def angleOf (r : Nat) : Nat := halfPi * r / 2 ^ 30

/-- The constant π / 2 is given within 10^-20. -/
theorem halfPi_close : |units halfPi - Real.pi / 2| ≤ 1 / 10 ^ 20 := by
  have low := Real.pi_gt_d20
  have high := Real.pi_lt_d20
  have value : units halfPi = 9860048348863269281198066682114134445731725432595044866280 / 2 ^ 192 := by
    rw [units, halfPi, ulp]; push_cast; ring
  rw [value, abs_le]
  constructor <;> norm_num at * <;> linarith

/-- The angle is evaluated within 10^-20 and one part. -/
theorem angleOf_close {r : Nat} (quarter : r ≤ 2 ^ 30) : |units (angleOf r) - Real.pi / 2 * (r / 2 ^ 30)| ≤ 1 / 10 ^ 20 + ulp := by
  obtain ⟨below, above⟩ := units_div (halfPi * r) (2 ^ 30)
  obtain ⟨low, high⟩ := abs_le.mp halfPi_close
  have part : (r : ℝ) / 2 ^ 30 ≤ 1 := by
    rw [div_le_one (by positivity)]
    exact_mod_cast quarter
  have natural : (0 : ℝ) ≤ (r : ℝ) / 2 ^ 30 := by positivity
  have product : units (halfPi * r) / ((2 ^ 30 : Nat) : ℝ) = units halfPi * (r / 2 ^ 30) := by
    simp only [units, Nat.cast_mul, Nat.cast_pow, Nat.cast_ofNat]
    ring
  rw [product] at below above
  have scaled : |units halfPi * (r / 2 ^ 30) - Real.pi / 2 * (r / 2 ^ 30)| ≤ 1 / 10 ^ 20 := by
    rw [← sub_mul, abs_mul, abs_of_nonneg natural]
    exact (mul_le_mul halfPi_close part natural (by positivity)).trans (by rw [mul_one])
  obtain ⟨less, more⟩ := abs_le.mp scaled
  rw [angleOf, abs_le]
  constructor <;> linarith

/-- The sine of a quarter cycle's part is evaluated within 2 × 10^-20. -/
theorem quarterSine_close {r : Nat} (quarter : r ≤ 2 ^ 30) :
    |units (quarterSine r) - Real.sin (Real.pi / 2 * (r / 2 ^ 30))| ≤ 2 / 10 ^ 20 := by
  have part := ulp_pos
  have tiny : ulp ≤ 1 / 10 ^ 50 := by unfold ulp; norm_num
  have close := angleOf_close quarter
  have natural := units_nonneg (angleOf r)
  have bounded : units (angleOf r) ≤ 1571 / 1000 := by
    have part : (r : ℝ) / 2 ^ 30 ≤ 1 := by
      rw [div_le_one (by positivity)]
      exact_mod_cast quarter
    have := Real.pi_lt_d20
    have := mul_le_mul_of_nonneg_left part (by positivity : (0 : ℝ) ≤ Real.pi / 2)
    linarith [(abs_le.mp close).2]
  obtain ⟨below, above⟩ := units_div (angleOf r * angleOf r) (2 ^ 192)
  have square : units (angleOf r * angleOf r) / ((2 ^ 192 : Nat) : ℝ) = units (angleOf r) ^ 2 := by
    rw [Nat.cast_pow, Nat.cast_ofNat, units_mul, sq]
  rw [square] at below above
  have squareBound : units (angleOf r) ^ 2 ≤ 5 / 2 := by nlinarith
  obtain ⟨series, within⟩ := sineSeries_close (x2 := angleOf r * angleOf r / 2 ^ 192) (y := units (angleOf r) ^ 2)
    (abs_le.mpr ⟨by linarith, by linarith⟩) (below.trans squareBound) (by positivity) squareBound 32 (U := 2 ^ 192) (u := 1)
    (by rw [units_one, sub_self, abs_zero]; positivity) le_rfl
  have sine := nestedSine_close natural (bounded.trans (by norm_num))
  have lipschitz := (Real.abs_sin_sub_sin_le (units (angleOf r)) (Real.pi / 2 * (r / 2 ^ 30))).trans close
  have evaluated : quarterSine r = angleOf r * sineSeries (angleOf r * angleOf r / 2 ^ 192) 32 (2 ^ 192) / 2 ^ 192 := by
    rw [quarterSine, sineBits, angleOf]
  obtain ⟨low, high⟩ := units_div (angleOf r * sineSeries (angleOf r * angleOf r / 2 ^ 192) 32 (2 ^ 192)) (2 ^ 192)
  rw [Nat.cast_pow, Nat.cast_ofNat, units_mul, ← evaluated] at low high
  have scaled : |units (angleOf r) * (units (sineSeries (angleOf r * angleOf r / 2 ^ 192) 32 (2 ^ 192)) -
      nestedSine (units (angleOf r) ^ 2) 32 1)| ≤ 1571 / 1000 * (8 * ulp) := by
    rw [abs_mul, abs_of_nonneg natural]
    exact mul_le_mul bounded series (abs_nonneg _) (by norm_num)
  rw [mul_sub] at scaled
  have remainder : (1 : ℝ) / 2 ^ 100 ≤ 1 / 10 ^ 30 := by norm_num
  obtain ⟨scaledLow, scaledHigh⟩ := abs_le.mp scaled
  obtain ⟨sineLow, sineHigh⟩ := abs_le.mp sine
  obtain ⟨lipschitzLow, lipschitzHigh⟩ := abs_le.mp lipschitz
  rw [abs_le]
  norm_num at tiny remainder lipschitzLow lipschitzHigh ⊢
  constructor <;> linarith

/-! ## The rounded samples -/

/-- The magnitude of a sample at amplitude `a`. -/
def magnitudeOf (a q : Nat) : Nat := (a * q + 2 ^ 191) / 2 ^ 192

/-- The magnitude is the nearest integer to the product. -/
theorem magnitudeOf_close (a q : Nat) : |(magnitudeOf a q : ℝ) - a * units q| ≤ 1 / 2 := by
  have below : ((magnitudeOf a q : Nat) : ℝ) ≤ ((a * q + 2 ^ 191 : Nat) : ℝ) / (2 ^ 192 : Nat) := Nat.cast_div_le
  have above : ((a * q + 2 ^ 191 : Nat) : ℝ) / (2 ^ 192 : Nat) < (magnitudeOf a q : Nat) + 1 := lt_div_add_one _ _
  have value : ((a * q + 2 ^ 191 : Nat) : ℝ) / (2 ^ 192 : Nat) = a * units q + 1 / 2 := by
    rw [units, ulp]; push_cast; ring
  rw [value] at below above
  rw [abs_le]
  constructor <;> linarith

/-- Half a unit, and the 2 ^ -40 that the evaluation may add. -/
theorem magnitudeOf_quarterSine {a r : Nat} (amplitude : a < 2 ^ 24) (quarter : r ≤ 2 ^ 30) :
    |(magnitudeOf a (quarterSine r) : ℝ) - a * Real.sin (Real.pi / 2 * (r / 2 ^ 30))| ≤ 1 / 2 + 1 / 2 ^ 40 := by
  have aR : (a : ℝ) ≤ 2 ^ 24 := by exact_mod_cast amplitude.le
  have scaled : |(a : ℝ) * (units (quarterSine r) - Real.sin (Real.pi / 2 * (r / 2 ^ 30)))| ≤ 2 ^ 24 * (2 / 10 ^ 20) := by
    rw [abs_mul, Nat.abs_cast]
    exact mul_le_mul aR (quarterSine_close quarter) (abs_nonneg _) (by positivity)
  have small : (2 : ℝ) ^ 24 * (2 / 10 ^ 20) ≤ 1 / 2 ^ 40 := by norm_num
  have whole : (magnitudeOf a (quarterSine r) : ℝ) - a * Real.sin (Real.pi / 2 * (r / 2 ^ 30)) =
      (magnitudeOf a (quarterSine r) - a * units (quarterSine r)) +
        a * (units (quarterSine r) - Real.sin (Real.pi / 2 * (r / 2 ^ 30))) := by ring
  rw [whole]
  exact (abs_add_le _ _).trans (by linarith [magnitudeOf_close a (quarterSine r)])

/-! ## The four quarters of a cycle -/

/-- A phase is a number of cycles, of quarters and a part of a quarter. -/
theorem angle_quarters (θ : Nat) : 2 * Real.pi * θ / 2 ^ 32 =
    Real.pi / 2 * ((θ % 2 ^ 32 % 2 ^ 30 : Nat) / 2 ^ 30) + (θ % 2 ^ 32 / 2 ^ 30 : Nat) * (Real.pi / 2) + (θ / 2 ^ 32 : Nat) * (2 * Real.pi) := by
  have split : θ = 2 ^ 32 * (θ / 2 ^ 32) + (2 ^ 30 * (θ % 2 ^ 32 / 2 ^ 30) + θ % 2 ^ 32 % 2 ^ 30) := by omega
  conv_lhs => rw [split]
  push_cast
  ring

/-- The rest of a quarter has the sine of the part's complement. -/
theorem sin_rest {r : Nat} (quarter : r ≤ 2 ^ 30) :
    Real.sin (Real.pi / 2 * ((2 ^ 30 - r : Nat) / 2 ^ 30)) = Real.cos (Real.pi / 2 * (r / 2 ^ 30)) := by
  rw [← Real.sin_pi_div_two_sub, Nat.cast_sub quarter]
  congr 1
  push_cast
  ring

/-- The sample of the rest of a quarter is the cosine's. -/
theorem magnitudeOf_rest {a r : Nat} (amplitude : a < 2 ^ 24) (part : r ≤ 2 ^ 30) :
    |(magnitudeOf a (quarterSine (2 ^ 30 - r)) : ℝ) - a * Real.cos (Real.pi / 2 * (r / 2 ^ 30))| ≤ 1 / 2 + 1 / 2 ^ 40 := by
  rw [← sin_rest part]
  exact magnitudeOf_quarterSine amplitude (Nat.sub_le (2 ^ 30) r)

/-- A magnitude with the sign of its half cycle. -/
def signed (m m' : Nat) : Nat → Int
  | 0 => m
  | 1 => m'
  | 2 => -m
  | _ => -m'

theorem sineOf_eq_signed (a θ : Nat) : sineOf a θ = signed (magnitudeOf a (quarterSine (θ % 2 ^ 32 % 2 ^ 30)))
    (magnitudeOf a (quarterSine (2 ^ 30 - θ % 2 ^ 32 % 2 ^ 30))) (θ % 2 ^ 32 / 2 ^ 30) := rfl

/-- The quarters of a cycle take the sine and the cosine of the part, with their signs. -/
theorem signed_close {m m' : Nat} {a x ε : ℝ} (sine : |(m : ℝ) - a * Real.sin x| ≤ ε) (cosine : |(m' : ℝ) - a * Real.cos x| ≤ ε) :
    ∀ quarter < 4, |(signed m m' quarter : ℝ) - a * Real.sin (x + quarter * (Real.pi / 2))| ≤ ε
  | 0, _ => by simpa [signed] using sine
  | 1, _ => by simpa [signed, Real.sin_add_pi_div_two] using cosine
  | 2, _ => by
    have half : x + ((2 : Nat) : ℝ) * (Real.pi / 2) = x + Real.pi := by push_cast; ring
    rw [half, Real.sin_add_pi, mul_neg, signed, Int.cast_neg, neg_sub_neg, abs_sub_comm]
    exact sine
  | 3, _ => by
    have threeQuarters : x + ((3 : Nat) : ℝ) * (Real.pi / 2) = x + Real.pi / 2 + Real.pi := by push_cast; ring
    rw [threeQuarters, Real.sin_add_pi, Real.sin_add_pi_div_two, mul_neg]
    simp only [signed, Int.cast_neg, neg_sub_neg]
    rw [abs_sub_comm]
    exact cosine

/-- A sample is an integer within half a unit of the exact value, up to 2 ^ -40 (R35). -/
theorem sineOf_close {a : Nat} (θ : Nat) (amplitude : a < 2 ^ 24) :
    |(sineOf a θ : ℝ) - a * Real.sin (2 * Real.pi * θ / 2 ^ 32)| ≤ 1 / 2 + 1 / 2 ^ 40 := by
  have part : θ % 2 ^ 32 % 2 ^ 30 ≤ 2 ^ 30 := by omega
  rw [sineOf_eq_signed, angle_quarters, Real.sin_add_nat_mul_two_pi]
  exact signed_close (magnitudeOf_quarterSine amplitude part) (magnitudeOf_rest amplitude part) _ (by omega)

/-- The cosine's sample is the sine's, a quarter cycle ahead (R69). -/
theorem cosineOf_close {a : Nat} (θ : Nat) (amplitude : a < 2 ^ 24) :
    |(cosineOf a θ : ℝ) - a * Real.cos (2 * Real.pi * θ / 2 ^ 32)| ≤ 1 / 2 + 1 / 2 ^ 40 := by
  have ahead : 2 * Real.pi * (θ + 2 ^ 30 : Nat) / 2 ^ 32 = 2 * Real.pi * θ / 2 ^ 32 + Real.pi / 2 := by
    push_cast
    ring
  have close := sineOf_close (θ + 2 ^ 30) amplitude
  rwa [ahead, Real.sin_add_pi_div_two] at close

/-- Settles O25: the increments and amplitudes are nearest integers by their searches, the samples by the series with 33 terms. -/
theorem incrementsAndAmplitudes : Obligations.IncrementsAndAmplitudes :=
  ⟨⟨fun _ top => increment_table top, by decide +kernel⟩, ⟨driveAmplitude_nearest, by decide +kernel⟩,
    fun _ θ amplitude => ⟨sineOf_close θ amplitude, cosineOf_close θ amplitude⟩⟩

end Sys2Proof.Machine
end
